-- ==== Sys2Proof/Word.lean ====
section
/-! DEFINITION. Word.lean: the two fixed-width word types of the model. The core's own registers have widths that
are parameters of the instance (00_scope.md R10), so they are held as numbers bounded by an invariant (Safety.lean). -/

namespace Sys2Proof

/-- One byte of the model's own byte form of an instruction (log 7). -/
abbrev Byte := BitVec 8

/-- The index of a configuration register: "The index field is 4 bits wide in every variant" (30_encoding.md R100). -/
abbrev RegIndex := BitVec 4

end Sys2Proof
end

