-- ==== Sys2Proof/Syntax.lean ====
section
/-! DEFINITION. Syntax.lean: one constructor of `Instr` for each row of spec/opcode_table.json: the states of the four
encoder variants, and the configuration registers of each variant (30_encoding.md R108). -/

namespace Sys2Proof

/-- The four encoder variants (00_scope.md R8). -/
inductive Variant
  | i2c
  | gen
  | att
  | spi
deriving DecidableEq, Repr

/-- A host access to one whole configuration register (20_memory.md R74): the operand of a register row. -/
inductive CfgAccess
  /-- `cfg_read(r)` (46_host_interface.md R245). -/
  | read
  /-- `cfg_write(r, v)` (46_host_interface.md R247); `v` is any unsigned number, the register truncates it. -/
  | write (v : Nat)
deriving DecidableEq, Repr

/-- The instructions: a state row stands for one tick in that state, a register row for one host access to that
register. -/
inductive Instr
  /-- I2C.WAIT, 42_i2c_encoder.md R155 -/
  | i2cWait
  /-- I2C.START, R157 -/
  | i2cStart
  /-- I2C.TRANSFER, R158 -/
  | i2cTransfer
  /-- I2C.ACK, R159 -/
  | i2cAck
  /-- I2C.STOP, R161 -/
  | i2cStop
  /-- GEN.WAIT, 43_generic_encoder.md R190 -/
  | genWait
  /-- GEN.TRANSFER, R191 -/
  | genTransfer
  /-- ATT.WAIT, 43_generic_encoder.md R190 -/
  | attWait
  /-- ATT.TRANSFER, R191 -/
  | attTransfer
  /-- ATT.LATCH, 44_attenuator_latch.md R208 -/
  | attLatch
  /-- SPI.WAIT, 43_generic_encoder.md R190 -/
  | spiWait
  /-- SPI.TRANSFER, R191 with 45_spi_extension.md R222 -/
  | spiTransfer
  /-- SPI.FIRSTCLK, R221 -/
  | spiFirstclk
  /-- SPI.CSN_HI, R223 -/
  | spiCsnHi
  -- Configuration registers, 30_encoding.md R100.
  | cfgI2cEndCycle (a : CfgAccess)
  | cfgI2cClkHigh (a : CfgAccess)
  | cfgI2cData (a : CfgAccess)
  | cfgI2cStart (a : CfgAccess)
  | cfgI2cStopLow (a : CfgAccess)
  | cfgI2cStopHigh (a : CfgAccess)
  | cfgI2cBbEn (a : CfgAccess)
  | cfgI2cBbOut (a : CfgAccess)
  | cfgI2cSdaIn (a : CfgAccess)
  | cfgGenEndCycle (a : CfgAccess)
  | cfgGenClkHigh (a : CfgAccess)
  | cfgGenData (a : CfgAccess)
  | cfgAttEndCycle (a : CfgAccess)
  | cfgAttClkHigh (a : CfgAccess)
  | cfgAttData (a : CfgAccess)
  | cfgAttLeHigh (a : CfgAccess)
  | cfgAttLeLow (a : CfgAccess)
  | cfgSpiEndCycle (a : CfgAccess)
  | cfgSpiClkHigh (a : CfgAccess)
  | cfgSpiData (a : CfgAccess)
  | cfgSpiBbEn (a : CfgAccess)
  | cfgSpiBbOut (a : CfgAccess)
  | cfgSpiSdiIn (a : CfgAccess)
deriving DecidableEq, Repr

/-- A row of the opcode table: what a code is read against (30_encoding.md R108, R109). -/
inductive Row
  /-- a state code of the variant (30_encoding.md R95) -/
  | state (v : Variant) (code : Nat)
  /-- a register index of the variant (30_encoding.md R100) -/
  | cfg (v : Variant) (index : Nat)
deriving DecidableEq, Repr

/-- The number in the row's `encoding` column. -/
def Row.code : Row → Nat
  | .state _ c => c
  | .cfg _ c => c

def Row.variant : Row → Variant
  | .state v _ => v
  | .cfg v _ => v

end Sys2Proof
end

