-- ==== Sys2Proof/Config.lean ====
section
/-! DEFINITION. Config.lean: the implementation parameters of an instance (00_scope.md R10). They are plain data, held
beside the registers of the instance and changed by nothing, so that a statement about every state is a statement about
every value of every parameter. -/

namespace Sys2Proof.Config

/-- The two widths every instance has (00_scope.md R10). -/
structure Dims where
  /-- `cycle_bits`: width of the counters and of every timing register. -/
  cycleBits : Nat
  /-- `width`: width of the payload and of the shift register. -/
  width : Nat
deriving DecidableEq, Repr

/-- Parameters of an I2C instance: the widths, `T_reset` of its six timing registers (10_state.md R48) and the
power-up draw `sync_init` of the two synchronizer stages (10_state.md R49). -/
structure I2cParams extends Dims where
  tEndCycle : Nat
  tClkHigh : Nat
  tData : Nat
  tStart : Nat
  tStopLow : Nat
  tStopHigh : Nat
  sync1 : Bool
  sync2 : Bool
deriving DecidableEq, Repr

/-- Parameters of a GEN instance. -/
structure GenParams extends Dims where
  tEndCycle : Nat
  tClkHigh : Nat
  tData : Nat
deriving DecidableEq, Repr

/-- Parameters of an ATT instance: `end_cycle`, `le_high` and `le_low` have the reset values of 10_state.md R47 and
are no parameters. -/
structure AttParams extends Dims where
  tClkHigh : Nat
  tData : Nat
deriving DecidableEq, Repr

/-- Parameters of an SPI instance. -/
structure SpiParams extends Dims where
  tEndCycle : Nat
  tClkHigh : Nat
  tData : Nat
  sync1 : Bool
  sync2 : Bool
deriving DecidableEq, Repr

/-- The parameters of the four instances the model holds (log 4). -/
structure Params where
  i2c : I2cParams
  gen : GenParams
  att : AttParams
  spi : SpiParams
deriving DecidableEq, Repr

/-- The legal widths of 00_scope.md R10. -/
abbrev Dims.Legal (d : Dims) : Prop := 1 ≤ d.cycleBits ∧ 1 ≤ d.width

/-- A legal reset value of a timing register: 0 ≤ v < 2^cycle_bits (00_scope.md R10). -/
abbrev Dims.Fits (d : Dims) (v : Nat) : Prop := v < 2 ^ d.cycleBits

abbrev I2cParams.Legal (p : I2cParams) : Prop :=
  p.toDims.Legal ∧ p.Fits p.tEndCycle ∧ p.Fits p.tClkHigh ∧ p.Fits p.tData ∧ p.Fits p.tStart ∧ p.Fits p.tStopLow ∧
    p.Fits p.tStopHigh

abbrev GenParams.Legal (p : GenParams) : Prop :=
  p.toDims.Legal ∧ p.Fits p.tEndCycle ∧ p.Fits p.tClkHigh ∧ p.Fits p.tData

/-- "≥ 4 when the ATT reset values of rule R47 are used" (00_scope.md R10). -/
abbrev AttParams.Legal (p : AttParams) : Prop :=
  p.toDims.Legal ∧ 4 ≤ p.cycleBits ∧ p.Fits p.tClkHigh ∧ p.Fits p.tData

abbrev SpiParams.Legal (p : SpiParams) : Prop :=
  p.toDims.Legal ∧ p.Fits p.tEndCycle ∧ p.Fits p.tClkHigh ∧ p.Fits p.tData

/-- Every parameter has a legal value (00_scope.md R10). -/
abbrev Params.Legal (p : Params) : Prop := p.i2c.Legal ∧ p.gen.Legal ∧ p.att.Legal ∧ p.spi.Legal

/-- The parameter values of the model's reset state. DESIGN CHOICE (log 1, log 2, log 3), unsafe: the spec leaves every
one of them OPEN. No obligation rests on them; statements are about every value. -/
def reference : Params where
  i2c := { cycleBits := 4, width := 8, tEndCycle := 0, tClkHigh := 0, tData := 0, tStart := 0, tStopLow := 0,
           tStopHigh := 0, sync1 := false, sync2 := false }
  gen := { cycleBits := 4, width := 8, tEndCycle := 0, tClkHigh := 0, tData := 0 }
  att := { cycleBits := 4, width := 8, tClkHigh := 0, tData := 0 }
  spi := { cycleBits := 4, width := 8, tEndCycle := 0, tClkHigh := 0, tData := 0, sync1 := false, sync2 := false }

/-- One line of the OPEN parameter `cfg_map`: the bus address of one configuration register (20_memory.md R72). -/
structure MapEntry where
  variant : Variant
  index : RegIndex
  address : Nat
deriving DecidableEq, Repr

/-- `cfg_map` as data (log 13): the instance of a register is named by its variant, one instance each (log 4). -/
abbrev CfgMap := List MapEntry

/-- `cfg_map` is a map and is injective: no register has two addresses and no address two registers
(20_memory.md R72). -/
abbrev CfgMap.Injective (m : CfgMap) : Prop :=
  m.Pairwise fun a b => ¬ (a.variant = b.variant ∧ a.index = b.index) ∧ a.address ≠ b.address

end Sys2Proof.Config
end

