-- ==== Sys2Proof/Machine/State.lean ====
section
/-! DEFINITION. Machine/State.lean: everything the spec gives the machine (10_state.md R50), one instance of each variant
(log 4), with the agents' inputs as data (log 5), and the power-up state. Registers of parameter width are numbers;
Safety.lean bounds them. -/

namespace Sys2Proof.Machine

open Sys2Proof.Config

/-- The states of I2C (10_state.md R32). -/
inductive I2cState
  | wait
  | start
  | transfer
  | ack
  | stop
deriving DecidableEq, Repr

/-- The states of GEN (10_state.md R32). -/
inductive GenState
  | wait
  | transfer
deriving DecidableEq, Repr

/-- The states of ATT (10_state.md R32). -/
inductive AttState
  | wait
  | transfer
  | latch
deriving DecidableEq, Repr

/-- The states of SPI (10_state.md R32). -/
inductive SpiState
  | wait
  | transfer
  | firstclk
  | csnHi
deriving DecidableEq, Repr

/-- A configuration write on the input `cfg_wr`: a register, by its index, and a value (00_scope.md R19). -/
structure CfgWrite where
  index : RegIndex
  value : Nat
deriving DecidableEq, Repr

/-- The inputs of an instance in one tick (00_scope.md R19). `pin` is `sda_line` for I2C and `sdi` for SPI; GEN and ATT
have no input line and read no `pin`. -/
structure TickInput where
  rst : Bool
  dataReady : Bool
  payload : Nat
  cfgWr : Option CfgWrite
  cfgRd : Option RegIndex
  pin : Bool
deriving DecidableEq, Repr

/-- The default inputs of 30_encoding.md R111, with the external line at the given level. -/
def TickInput.quiet (line : Bool) : TickInput :=
  { rst := false, dataReady := false, payload := 0, cfgWr := none, cfgRd := none, pin := line }

/-- The statements of a host script (30_encoding.md R112), and `drive`, one raw input vector (R113, log 14). -/
inductive Stmt
  | write (r : RegIndex) (v : Nat)
  | read (r : RegIndex)
  | submit (p : Nat)
  | tick (n : Nat)
  | waitIdle
  | line (b : Bool)
  | rst
  | drive (inp : TickInput)
deriving DecidableEq, Repr

/-- The agents' side of an instance: the inputs of the current tick, the host script still to run, the level last set by
`line`, and the read data the host took in the tick just ended (log 5, log 6). None of it is a register of the core. -/
structure Port where
  inp : TickInput
  script : List Stmt
  line : Bool
  rdata : Option Nat
deriving DecidableEq, Repr

/-- The registers every variant has (10_state.md R33 to R37): the timing base with its three common timing registers,
the bit shifter, and the model-only fault flag. -/
structure Base where
  cnt : Nat
  endCycle : Nat
  clkHigh : Nat
  data : Nat
  sr : Nat
  rem : Nat
  faultUnderflow : Bool
deriving DecidableEq, Repr

/-- The registers of the bit-bang overlay and of the input synchronizer (10_state.md R43 to R45). -/
structure Overlay where
  bbEn : Bool
  bbOut : BitVec 3
  sync1 : Bool
  sync2 : Bool
deriving DecidableEq, Repr

/-- The generic serial encoder that GEN, ATT and SPI are built on (43_generic_encoder.md): the common registers and the
lines `clk` and `sdo` (10_state.md R39, R40). -/
structure Serial where
  base : Base
  clk : Bool
  sdo : Bool
deriving DecidableEq, Repr

/-- An I2C instance. -/
structure I2c where
  par : I2cParams
  state : I2cState
  base : Base
  start : Nat
  stopLow : Nat
  stopHigh : Nat
  scl : Bool
  sdaO : Bool
  overlay : Overlay
  port : Port
deriving DecidableEq, Repr

/-- A GEN instance. -/
structure Gen where
  par : GenParams
  state : GenState
  serial : Serial
  port : Port
deriving DecidableEq, Repr

/-- An ATT instance. -/
structure Att where
  par : AttParams
  state : AttState
  serial : Serial
  leHigh : Nat
  leLow : Nat
  lcnt : Nat
  le : Bool
  port : Port
deriving DecidableEq, Repr

/-- An SPI instance. -/
structure Spi where
  par : SpiParams
  state : SpiState
  serial : Serial
  csn : Bool
  overlay : Overlay
  port : Port
deriving DecidableEq, Repr

/-- The machine: one instance of each variant, with no shared register (00_scope.md R8; 46_host_interface.md R257;
log 4). -/
structure State where
  i2c : I2c
  gen : Gen
  att : Att
  spi : Spi
deriving DecidableEq, Repr

/-- Why the machine stops with a fault. It never does: "The core raises no exception, trap or fault"
(60_exceptions.md R270); the one model fault is the flag `Base.faultUnderflow`, which stops nothing (R273). -/
inductive Fault
deriving DecidableEq, Repr

/-- Why the model gives a step no meaning. -/
inductive Refusal
  /-- An instruction without a meaning yet. Raised by no arm of this model. Safe. -/
  | notModelled (mnemonic : String)
  /-- A host access to a register index that names no register of the instance: outside the core (20_memory.md R73,
  93_implementation_defined.md I15 "refuse"). Raised by the step (Machine/Tick.lean). Safe. -/
  | emptyRegisterIndex
  /-- A state register that holds a code of no state (30_encoding.md R97, 93_implementation_defined.md I14 "refuse").
  Raised by the step's fetch; no State holds such a code. Safe. -/
  | unusedStateCode
deriving DecidableEq, Repr

/-- What an instruction or a step answers. -/
abbrev Result := Host.Outcome State Fault Refusal

/-- The agents' side at power-up: no statement, default inputs, line level 1 (30_encoding.md R111; log 5, log 6). -/
def Port.powerUp : Port := { inp := TickInput.quiet true, script := [], line := true, rdata := none }

/-- The common registers at their reset values (10_state.md R33, R35 to R37, R47, R48). -/
def Base.powerUp (width endCycle clkHigh data : Nat) : Base :=
  { cnt := 0, endCycle := endCycle, clkHigh := clkHigh, data := data, sr := 0, rem := width, faultUnderflow := false }

/-- An I2C instance at power-up (10_state.md R50, 70_reset_and_hazards.md R296). -/
def I2c.powerUp (p : I2cParams) : I2c :=
  { par := p, state := .wait, base := Base.powerUp p.width p.tEndCycle p.tClkHigh p.tData, start := p.tStart,
    stopLow := p.tStopLow, stopHigh := p.tStopHigh, scl := true, sdaO := true,
    overlay := { bbEn := false, bbOut := 0b111#3, sync1 := p.sync1, sync2 := p.sync2 }, port := Port.powerUp }

/-- A GEN instance at power-up. -/
def Gen.powerUp (p : GenParams) : Gen :=
  { par := p, state := .wait,
    serial := { base := Base.powerUp p.width p.tEndCycle p.tClkHigh p.tData, clk := false, sdo := false },
    port := Port.powerUp }

/-- An ATT instance at power-up: `end_cycle` = 8, `le_high` = 5, `le_low` = 15 (10_state.md R47). -/
def Att.powerUp (p : AttParams) : Att :=
  { par := p, state := .wait,
    serial := { base := Base.powerUp p.width 8 p.tClkHigh p.tData, clk := false, sdo := false },
    leHigh := 5, leLow := 15, lcnt := 0, le := false, port := Port.powerUp }

/-- An SPI instance at power-up: clock idle high, chip deselected (10_state.md R40, R44). -/
def Spi.powerUp (p : SpiParams) : Spi :=
  { par := p, state := .wait,
    serial := { base := Base.powerUp p.width p.tEndCycle p.tClkHigh p.tData, clk := true, sdo := false },
    csn := true, overlay := { bbEn := false, bbOut := 0b101#3, sync1 := p.sync1, sync2 := p.sync2 },
    port := Port.powerUp }

/-- The machine at power-up, for any value of its parameters: "They all start at power-up, on the same tick"
(60_exceptions.md R283). -/
def State.powerUp (p : Params) : State :=
  { i2c := I2c.powerUp p.i2c, gen := Gen.powerUp p.gen, att := Att.powerUp p.att, spi := Spi.powerUp p.spi }

/-- The machine right after power-up (70_reset_and_hazards.md R296), at the reference parameters (log 1 to log 3). -/
def State.reset : State := State.powerUp Config.reference

/-- Replace the I2C instance. -/
def State.withI2c (s : State) (m : I2c) : State := { s with i2c := m }

/-- Replace the GEN instance. -/
def State.withGen (s : State) (m : Gen) : State := { s with gen := m }

/-- Replace the ATT instance. -/
def State.withAtt (s : State) (m : Att) : State := { s with att := m }

/-- Replace the SPI instance. -/
def State.withSpi (s : State) (m : Spi) : State := { s with spi := m }

end Sys2Proof.Machine
end

