-- ==== Sys2Proof/Machine/Operands.lean ====
section
/-! DEFINITION. Machine/Operands.lean: operand assembly (30_encoding.md R107), the codes of the state registers (R95), and
what a configuration read returns (46_host_interface.md R245). -/

namespace Sys2Proof.Machine

/-- `trunc_N(v)`, the low `N` bits of `v` (00_scope.md R14). -/
def trunc (n v : Nat) : Nat := v % 2 ^ n

/-- `v[0]`, what a write stores in `bb_en` (30_encoding.md R102). -/
def bit0 (v : Nat) : Bool := v.testBit 0

/-- `v[2:0]`, what a write stores in `bb_out` (30_encoding.md R106). -/
def low3 (v : Nat) : BitVec 3 := BitVec.ofNat 3 v

/-- A one-bit register read as an unsigned number, zero-extended (30_encoding.md R103). -/
def zextBit (b : Bool) : Nat := if b then 1 else 0

/-- The code of an I2C state (30_encoding.md R95). -/
def I2cState.code : I2cState → Nat
  | .wait => 0
  | .start => 1
  | .transfer => 2
  | .ack => 3
  | .stop => 4

/-- The code of a GEN state (30_encoding.md R95). -/
def GenState.code : GenState → Nat
  | .wait => 0
  | .transfer => 1

/-- The code of an ATT state (30_encoding.md R95). -/
def AttState.code : AttState → Nat
  | .wait => 0
  | .transfer => 1
  | .latch => 2

/-- The code of an SPI state (30_encoding.md R95). -/
def SpiState.code : SpiState → Nat
  | .wait => 0
  | .transfer => 1
  | .firstclk => 2
  | .csnHi => 3

/-- The state register of an instance as its code: what the step fetches in the tick (10_state.md R31). -/
def State.stateCode (s : State) : Variant → Nat
  | .i2c => s.i2c.state.code
  | .gen => s.gen.state.code
  | .att => s.att.state.code
  | .spi => s.spi.state.code

/-- The agents' side of an instance. -/
def State.port (s : State) : Variant → Port
  | .i2c => s.i2c.port
  | .gen => s.gen.port
  | .att => s.att.port
  | .spi => s.spi.port

/-- Replace the agents' side of an instance. -/
def State.withPort (s : State) (v : Variant) (p : Port) : State :=
  match v with
  | .i2c => s.withI2c { s.i2c with port := p }
  | .gen => s.withGen { s.gen with port := p }
  | .att => s.withAtt { s.att with port := p }
  | .spi => s.withSpi { s.spi with port := p }

/-- Set the state register of an instance to the state with the given code; a code of no state changes nothing
(30_encoding.md R97: a state type holds only the named states). -/
def State.withStateCode (s : State) (v : Variant) (code : Nat) : State :=
  match v, code with
  | .i2c, 0 => s.withI2c { s.i2c with state := .wait }
  | .i2c, 1 => s.withI2c { s.i2c with state := .start }
  | .i2c, 2 => s.withI2c { s.i2c with state := .transfer }
  | .i2c, 3 => s.withI2c { s.i2c with state := .ack }
  | .i2c, 4 => s.withI2c { s.i2c with state := .stop }
  | .gen, 0 => s.withGen { s.gen with state := .wait }
  | .gen, 1 => s.withGen { s.gen with state := .transfer }
  | .att, 0 => s.withAtt { s.att with state := .wait }
  | .att, 1 => s.withAtt { s.att with state := .transfer }
  | .att, 2 => s.withAtt { s.att with state := .latch }
  | .spi, 0 => s.withSpi { s.spi with state := .wait }
  | .spi, 1 => s.withSpi { s.spi with state := .transfer }
  | .spi, 2 => s.withSpi { s.spi with state := .firstclk }
  | .spi, 3 => s.withSpi { s.spi with state := .csnHi }
  | _, _ => s

end Sys2Proof.Machine
end

