-- ==== Sys2Proof/Machine/Flags.lean ====
section
/-! DEFINITION. Machine/Flags.lean: the core has no condition codes; its status signals are combinational
(10_state.md R46): the events of the timing base and of the latch counter, `busy`, `idle`, `sda_oe` and `accepted`. -/

namespace Sys2Proof.Machine

/-- `ev_r := (cnt == r)` (40_timing_base.md R122): an event is a level, true in every tick where the equality holds. -/
def Base.event (b : Base) (r : Nat) : Bool := b.cnt == r

/-- `ev_end` (40_timing_base.md R123). -/
def Base.evEnd (b : Base) : Bool := b.event b.endCycle

/-- `ev_clk_high`. -/
def Base.evClkHigh (b : Base) : Bool := b.event b.clkHigh

/-- `ev_data`. -/
def Base.evData (b : Base) : Bool := b.event b.data

/-- `ev_start` (I2C). -/
def I2c.evStart (m : I2c) : Bool := m.base.event m.start

/-- `ev_stop_low` (I2C). -/
def I2c.evStopLow (m : I2c) : Bool := m.base.event m.stopLow

/-- `ev_stop_high` (I2C). -/
def I2c.evStopHigh (m : I2c) : Bool := m.base.event m.stopHigh

/-- `ev_le_high`: compared with `lcnt`, never with `cnt` (44_attenuator_latch.md R207). -/
def Att.evLeHigh (m : Att) : Bool := m.lcnt == m.leHigh

/-- `ev_le_low` (44_attenuator_latch.md R207). -/
def Att.evLeLow (m : Att) : Bool := m.lcnt == m.leLow

/-- `busy := (state != WAIT)` (10_state.md R46). -/
def I2c.busy (m : I2c) : Bool := m.state != .wait

def Gen.busy (m : Gen) : Bool := m.state != .wait

def Att.busy (m : Att) : Bool := m.state != .wait

def Spi.busy (m : Spi) : Bool := m.state != .wait

/-- `busy` of an instance. -/
def State.busy (s : State) : Variant → Bool
  | .i2c => s.i2c.busy
  | .gen => s.gen.busy
  | .att => s.att.busy
  | .spi => s.spi.busy

/-- `idle := (state == WAIT)` (10_state.md R46), the framer's "accept". -/
def State.idle (s : State) (v : Variant) : Bool := !s.busy v

/-- `accepted := data_ready and idle`, in a tick that is no reset (46_host_interface.md R249, corner case (d)). -/
def State.accepted (s : State) (v : Variant) : Bool :=
  (s.port v).inp.dataReady && s.idle v && !(s.port v).inp.rst

/-- `sda_oe := (state != ACK)` (42_i2c_encoder.md R163). -/
def I2c.sdaOe (m : I2c) : Bool := m.state != .ack

end Sys2Proof.Machine
end

