-- ==== Sys2Proof/Machine/Ops.lean ====
section
/-! DEFINITION. Machine/Ops.lean: the operations the meanings share: the counters, the bit shifter, the model's one fault,
the clock actions, the synchronizer, a configuration access, and the reset. Every right-hand side reads the values before
the tick's update (00_scope.md R13). -/

namespace Sys2Proof.Machine

open Sys2Proof.Config

/-- Go on with the state an outcome holds. -/
def andThen (o : Result) (f : State → Result) : Result :=
  match o with
  | .next s => f s
  | .fault r => .fault r
  | .refused r => .refused r

/-- `raise Fault(shift_underflow)` (60_exceptions.md R273): the sticky model-only flag is set and the tick goes on. This is
all that taking the core's one fault does: "There is no trap entry" (R277), and there is no return from it (R278). -/
def Base.raiseUnderflow (b : Base) : Base := { b with faultUnderflow := true }

/-- The cycle counter's update (40_timing_base.md R121): held at 0 in `WAIT` (R124), zeroed at `ev_end`, else incremented
modulo 2^cycle_bits. -/
def Base.tickCounter (cycleBits : Nat) (waiting : Bool) (b : Base) : Base :=
  { b with cnt := if waiting || b.evEnd then 0 else trunc cycleBits (b.cnt + 1) }

/-- The latch counter's update (44_attenuator_latch.md R206). -/
def nextLcnt (cycleBits : Nat) (latching : Bool) (lcnt : Nat) : Nat :=
  if latching then trunc cycleBits (lcnt + 1) else 0

/-- `load` (41_bit_shifter.md R140). The input `payload` is `width` bits wide (00_scope.md R19; log 11). -/
def Base.load (width payload : Nat) (b : Base) : Base := { b with sr := trunc width payload, rem := width }

/-- The bit a `shift` puts on the data line: `sr[0]` (41_bit_shifter.md R141). -/
def Base.shiftBit (b : Base) : Bool := b.sr.testBit 0

/-- `shift` (41_bit_shifter.md R141, R142): a logical right shift, `rem` counted down and held at 0, and the underflow
fault when `rem` is 0. -/
def Base.shift (b : Base) : Base :=
  let b' : Base := { b with sr := b.sr >>> 1, rem := b.rem - 1 }
  if b.rem = 0 then b'.raiseUnderflow else b'

/-- `i2c_clock_edges` (42_i2c_encoder.md R156): the later assignment, at `ev_end`, wins. -/
def i2cClockEdges (b : Base) (scl : Bool) : Bool :=
  let scl := if b.evClkHigh then true else scl
  if b.evEnd then false else scl

/-- `gen_clock_edges` (43_generic_encoder.md R192): the later assignment, at `ev_end`, wins. -/
def genClockEdges (b : Base) (clk : Bool) : Bool :=
  let clk := if b.evClkHigh then true else clk
  if b.evEnd then false else clk

/-- What `WAIT` does in the generic encoder, the transition apart (43_generic_encoder.md R190): `load`, and the counter held
at 0. -/
def Serial.waitTick (d : Dims) (payload : Nat) (x : Serial) : Serial :=
  { x with base := (x.base.load d.width payload).tickCounter d.cycleBits true }

/-- What `TRANSFER` does in the generic encoder, the transition apart (43_generic_encoder.md R191): the clock action, and at
`ev_data` a `shift` onto `sdo`. -/
def Serial.transferTick (d : Dims) (x : Serial) : Serial :=
  { base := (if x.base.evData then x.base.shift else x.base).tickCounter d.cycleBits false,
    clk := genClockEdges x.base x.clk,
    sdo := if x.base.evData then x.base.shiftBit else x.sdo }

/-- The exit test of the generic `TRANSFER`: `ev_end and rem == 0`, on the values before this tick's shift
(43_generic_encoder.md R191). -/
def Serial.transferEnds (x : Serial) : Bool := x.base.evEnd && x.base.rem == 0

/-- A tick of the generic encoder in a state that neither loads nor shifts: only the counter moves
(40_timing_base.md R130, 41_bit_shifter.md R143). -/
def Serial.holdTick (d : Dims) (x : Serial) : Serial := { x with base := x.base.tickCounter d.cycleBits false }

/-- The two-stage synchronizer, in every tick (46_host_interface.md R252). -/
def Overlay.sync (pin : Bool) (o : Overlay) : Overlay := { o with sync1 := pin, sync2 := o.sync1 }

/-- The host takes the read data of a configuration read (46_host_interface.md R245; log 6). -/
def Port.returnData (v : Nat) (p : Port) : Port := { p with rdata := some v }

/-- A configuration access to a register of I2C: a read returns `value`, a write in a tick without `rst` gives `store v`
(46_host_interface.md R245, R247). -/
def I2c.access (m : I2c) (a : CfgAccess) (value : Nat) (store : Nat → I2c) : I2c :=
  match a with
  | .read => { m with port := m.port.returnData value }
  | .write v => if m.port.inp.rst then m else store v

/-- A configuration access to a register of GEN. -/
def Gen.access (m : Gen) (a : CfgAccess) (value : Nat) (store : Nat → Gen) : Gen :=
  match a with
  | .read => { m with port := m.port.returnData value }
  | .write v => if m.port.inp.rst then m else store v

/-- A configuration access to a register of ATT. -/
def Att.access (m : Att) (a : CfgAccess) (value : Nat) (store : Nat → Att) : Att :=
  match a with
  | .read => { m with port := m.port.returnData value }
  | .write v => if m.port.inp.rst then m else store v

/-- A configuration access to a register of SPI. -/
def Spi.access (m : Spi) (a : CfgAccess) (value : Nat) (store : Nat → Spi) : Spi :=
  match a with
  | .read => { m with port := m.port.returnData value }
  | .write v => if m.port.inp.rst then m else store v

/-- Store `trunc_cycle_bits(v)` in `end_cycle` (46_host_interface.md R247). -/
def Base.storeEndCycle (cycleBits v : Nat) (b : Base) : Base := { b with endCycle := trunc cycleBits v }

/-- Store `trunc_cycle_bits(v)` in `clk_high`. -/
def Base.storeClkHigh (cycleBits v : Nat) (b : Base) : Base := { b with clkHigh := trunc cycleBits v }

/-- Store `trunc_cycle_bits(v)` in `data`. -/
def Base.storeData (cycleBits v : Nat) (b : Base) : Base := { b with data := trunc cycleBits v }

/-- `rst` on an I2C instance (70_reset_and_hazards.md R295): every register takes its reset value except the synchronizer
stages and `fault_underflow`. -/
def I2c.applyReset (m : I2c) : I2c :=
  let r := I2c.powerUp m.par
  { r with base := { r.base with faultUnderflow := m.base.faultUnderflow },
           overlay := { r.overlay with sync1 := m.overlay.sync1, sync2 := m.overlay.sync2 }, port := m.port }

/-- `rst` on a GEN instance. -/
def Gen.applyReset (m : Gen) : Gen :=
  let r := Gen.powerUp m.par
  { r with serial := { r.serial with
      base := { r.serial.base with faultUnderflow := m.serial.base.faultUnderflow } }, port := m.port }

/-- `rst` on an ATT instance. -/
def Att.applyReset (m : Att) : Att :=
  let r := Att.powerUp m.par
  { r with serial := { r.serial with
      base := { r.serial.base with faultUnderflow := m.serial.base.faultUnderflow } }, port := m.port }

/-- `rst` on an SPI instance. -/
def Spi.applyReset (m : Spi) : Spi :=
  let r := Spi.powerUp m.par
  { r with serial := { r.serial with
      base := { r.serial.base with faultUnderflow := m.serial.base.faultUnderflow } },
           overlay := { r.overlay with sync1 := m.overlay.sync1, sync2 := m.overlay.sync2 }, port := m.port }

/-- `rst` on an instance. -/
def State.applyReset (s : State) : Variant → State
  | .i2c => s.withI2c s.i2c.applyReset
  | .gen => s.withGen s.gen.applyReset
  | .att => s.withAtt s.att.applyReset
  | .spi => s.withSpi s.spi.applyReset

end Sys2Proof.Machine
end

