-- ==== Sys2Proof/Machine/Att.lean ====
section
/-! DEFINITION. Machine/Att.lean: the meanings of the ATT rows, the generic encoder with the attenuator-latch extension
(44_attenuator_latch.md R205 to R212). Every state row updates the latch counter too (R206). -/

namespace Sys2Proof.Machine

/-- `WAIT` with START_TARGET = `TRANSFER` (43_generic_encoder.md R190, R193). -/
def Att.waitTick (m : Att) : Att :=
  { m with serial := m.serial.waitTick m.par.toDims m.port.inp.payload,
           lcnt := nextLcnt m.par.cycleBits false m.lcnt,
           state := if m.port.inp.dataReady then .transfer else m.state }

/-- `TRANSFER` with END_TARGET = `LATCH` (43_generic_encoder.md R191, R193). -/
def Att.transferTick (m : Att) : Att :=
  { m with serial := m.serial.transferTick m.par.toDims,
           lcnt := nextLcnt m.par.cycleBits false m.lcnt,
           state := if m.serial.transferEnds then .latch else m.state }

/-- `LATCH` (44_attenuator_latch.md R208): `le_low` wins over `le_high`, and ends the state (R209). -/
def Att.latchTick (m : Att) : Att :=
  let le := if m.evLeHigh then true else m.le
  { m with serial := m.serial.holdTick m.par.toDims,
           lcnt := nextLcnt m.par.cycleBits true m.lcnt,
           le := if m.evLeLow then false else le,
           state := if m.evLeLow then .wait else m.state }

def execAttWait (s : State) : Result := .next (s.withAtt s.att.waitTick)

def execAttTransfer (s : State) : Result := .next (s.withAtt s.att.transferTick)

def execAttLatch (s : State) : Result := .next (s.withAtt s.att.latchTick)

/-- ATT `end_cycle`, index 0. -/
def execCfgAttEndCycle (a : CfgAccess) (s : State) : Result :=
  .next (s.withAtt (s.att.access a s.att.serial.base.endCycle fun v =>
    { s.att with serial := { s.att.serial with base := s.att.serial.base.storeEndCycle s.att.par.cycleBits v } }))

/-- ATT `clk_high`, index 1. -/
def execCfgAttClkHigh (a : CfgAccess) (s : State) : Result :=
  .next (s.withAtt (s.att.access a s.att.serial.base.clkHigh fun v =>
    { s.att with serial := { s.att.serial with base := s.att.serial.base.storeClkHigh s.att.par.cycleBits v } }))

/-- ATT `data`, index 2. -/
def execCfgAttData (a : CfgAccess) (s : State) : Result :=
  .next (s.withAtt (s.att.access a s.att.serial.base.data fun v =>
    { s.att with serial := { s.att.serial with base := s.att.serial.base.storeData s.att.par.cycleBits v } }))

/-- ATT `le_high`, index 3. -/
def execCfgAttLeHigh (a : CfgAccess) (s : State) : Result :=
  .next (s.withAtt (s.att.access a s.att.leHigh fun v => { s.att with leHigh := trunc s.att.par.cycleBits v }))

/-- ATT `le_low`, index 4. -/
def execCfgAttLeLow (a : CfgAccess) (s : State) : Result :=
  .next (s.withAtt (s.att.access a s.att.leLow fun v => { s.att with leLow := trunc s.att.par.cycleBits v }))

end Sys2Proof.Machine
end

