-- ==== Sys2Proof/Machine/Gen.lean ====
section
/-! DEFINITION. Machine/Gen.lean: the meanings of the GEN rows, the generic encoder with its default targets
(43_generic_encoder.md R190 to R193, R196). -/

namespace Sys2Proof.Machine

/-- `WAIT` with START_TARGET = `TRANSFER` (43_generic_encoder.md R190, R193). -/
def Gen.waitTick (m : Gen) : Gen :=
  { m with serial := m.serial.waitTick m.par.toDims m.port.inp.payload,
           state := if m.port.inp.dataReady then .transfer else m.state }

/-- `TRANSFER` with END_TARGET = `WAIT` (43_generic_encoder.md R191, R193). -/
def Gen.transferTick (m : Gen) : Gen :=
  { m with serial := m.serial.transferTick m.par.toDims,
           state := if m.serial.transferEnds then .wait else m.state }

def execGenWait (s : State) : Result := .next (s.withGen s.gen.waitTick)

def execGenTransfer (s : State) : Result := .next (s.withGen s.gen.transferTick)

/-- GEN `end_cycle`, index 0. -/
def execCfgGenEndCycle (a : CfgAccess) (s : State) : Result :=
  .next (s.withGen (s.gen.access a s.gen.serial.base.endCycle fun v =>
    { s.gen with serial := { s.gen.serial with base := s.gen.serial.base.storeEndCycle s.gen.par.cycleBits v } }))

/-- GEN `clk_high`, index 1. -/
def execCfgGenClkHigh (a : CfgAccess) (s : State) : Result :=
  .next (s.withGen (s.gen.access a s.gen.serial.base.clkHigh fun v =>
    { s.gen with serial := { s.gen.serial with base := s.gen.serial.base.storeClkHigh s.gen.par.cycleBits v } }))

/-- GEN `data`, index 2. -/
def execCfgGenData (a : CfgAccess) (s : State) : Result :=
  .next (s.withGen (s.gen.access a s.gen.serial.base.data fun v =>
    { s.gen with serial := { s.gen.serial with base := s.gen.serial.base.storeData s.gen.par.cycleBits v } }))

end Sys2Proof.Machine
end

