-- ==== Sys2Proof/Machine/I2c.lean ====
section
/-! DEFINITION. Machine/I2c.lean: the meanings of the I2C rows. A state row's meaning is the next-state function of
42_i2c_encoder.md for that state in a tick with `rst` = 0, the counter included (R164); the synchronizer and the host's
accesses are added by the step (log 9). -/

namespace Sys2Proof.Machine

/-- `WAIT` (42_i2c_encoder.md R155): `load`, and `START` on `data_ready`. No line is written. -/
def I2c.waitTick (m : I2c) : I2c :=
  { m with base := (m.base.load m.par.width m.port.inp.payload).tickCounter m.par.cycleBits true,
           state := if m.port.inp.dataReady then .start else m.state }

/-- `START` (42_i2c_encoder.md R157). -/
def I2c.startTick (m : I2c) : I2c :=
  { m with base := m.base.tickCounter m.par.cycleBits false,
           scl := i2cClockEdges m.base m.scl,
           sdaO := if m.evStart then false else m.sdaO,
           state := if m.base.evEnd then .transfer else m.state }

/-- `TRANSFER` (42_i2c_encoder.md R158): the exit test `rem mod 8 == 0` reads `rem` before this tick's shift. -/
def I2c.transferTick (m : I2c) : I2c :=
  { m with base := (if m.base.evData then m.base.shift else m.base).tickCounter m.par.cycleBits false,
           scl := i2cClockEdges m.base m.scl,
           sdaO := if m.base.evData then m.base.shiftBit else m.sdaO,
           state := if m.base.evEnd && m.base.rem % 8 == 0 then .ack else m.state }

/-- `ACK` (42_i2c_encoder.md R159): no line is sampled (R160). -/
def I2c.ackTick (m : I2c) : I2c :=
  { m with base := m.base.tickCounter m.par.cycleBits false,
           scl := i2cClockEdges m.base m.scl,
           state := if m.base.evEnd then (if m.base.rem = 0 then .stop else .transfer) else m.state }

/-- `STOP` (42_i2c_encoder.md R161): the clock is raised and not lowered; `stop_high` wins over `stop_low`. -/
def I2c.stopTick (m : I2c) : I2c :=
  let sdaO := if m.evStopLow then false else m.sdaO
  { m with base := m.base.tickCounter m.par.cycleBits false,
           scl := if m.base.evClkHigh then true else m.scl,
           sdaO := if m.evStopHigh then true else sdaO,
           state := if m.base.evEnd then .wait else m.state }

def execI2cWait (s : State) : Result := .next (s.withI2c s.i2c.waitTick)

def execI2cStart (s : State) : Result := .next (s.withI2c s.i2c.startTick)

def execI2cTransfer (s : State) : Result := .next (s.withI2c s.i2c.transferTick)

def execI2cAck (s : State) : Result := .next (s.withI2c s.i2c.ackTick)

def execI2cStop (s : State) : Result := .next (s.withI2c s.i2c.stopTick)

/-- I2C `end_cycle`, index 0. -/
def execCfgI2cEndCycle (a : CfgAccess) (s : State) : Result :=
  .next (s.withI2c (s.i2c.access a s.i2c.base.endCycle fun v =>
    { s.i2c with base := s.i2c.base.storeEndCycle s.i2c.par.cycleBits v }))

/-- I2C `clk_high`, index 1. -/
def execCfgI2cClkHigh (a : CfgAccess) (s : State) : Result :=
  .next (s.withI2c (s.i2c.access a s.i2c.base.clkHigh fun v =>
    { s.i2c with base := s.i2c.base.storeClkHigh s.i2c.par.cycleBits v }))

/-- I2C `data`, index 2. -/
def execCfgI2cData (a : CfgAccess) (s : State) : Result :=
  .next (s.withI2c (s.i2c.access a s.i2c.base.data fun v =>
    { s.i2c with base := s.i2c.base.storeData s.i2c.par.cycleBits v }))

/-- I2C `start`, index 3. -/
def execCfgI2cStart (a : CfgAccess) (s : State) : Result :=
  .next (s.withI2c (s.i2c.access a s.i2c.start fun v => { s.i2c with start := trunc s.i2c.par.cycleBits v }))

/-- I2C `stop_low`, index 4. -/
def execCfgI2cStopLow (a : CfgAccess) (s : State) : Result :=
  .next (s.withI2c (s.i2c.access a s.i2c.stopLow fun v => { s.i2c with stopLow := trunc s.i2c.par.cycleBits v }))

/-- I2C `stop_high`, index 5. -/
def execCfgI2cStopHigh (a : CfgAccess) (s : State) : Result :=
  .next (s.withI2c (s.i2c.access a s.i2c.stopHigh fun v => { s.i2c with stopHigh := trunc s.i2c.par.cycleBits v }))

/-- I2C `bb_en`, index 6: a write stores `v[0]`. -/
def execCfgI2cBbEn (a : CfgAccess) (s : State) : Result :=
  .next (s.withI2c (s.i2c.access a (zextBit s.i2c.overlay.bbEn) fun v =>
    { s.i2c with overlay := { s.i2c.overlay with bbEn := bit0 v } }))

/-- I2C `bb_out`, index 7: a write stores `v[2:0]`. -/
def execCfgI2cBbOut (a : CfgAccess) (s : State) : Result :=
  .next (s.withI2c (s.i2c.access a s.i2c.overlay.bbOut.toNat fun v =>
    { s.i2c with overlay := { s.i2c.overlay with bbOut := low3 v } }))

/-- I2C `sda_in`, index 8: read-only, a write changes nothing (20_memory.md R76). -/
def execCfgI2cSdaIn (a : CfgAccess) (s : State) : Result :=
  .next (s.withI2c (s.i2c.access a (zextBit s.i2c.overlay.sync2) fun _ => s.i2c))

end Sys2Proof.Machine
end

