-- ==== Sys2Proof/Machine/Spi.lean ====
section
/-! DEFINITION. Machine/Spi.lean: the meanings of the SPI rows, the generic encoder with the SPI-style extension
(45_spi_extension.md R220 to R228). -/

namespace Sys2Proof.Machine

/-- `WAIT` with START_TARGET = `FIRSTCLK` (43_generic_encoder.md R190, R193). -/
def Spi.waitTick (m : Spi) : Spi :=
  { m with serial := m.serial.waitTick m.par.toDims m.port.inp.payload,
           state := if m.port.inp.dataReady then .firstclk else m.state }

/-- `FIRSTCLK` (45_spi_extension.md R221): `sdo` and `csn` are not written. -/
def Spi.firstclkTick (m : Spi) : Spi :=
  { m with serial := { m.serial.holdTick m.par.toDims with clk := genClockEdges m.serial.base m.serial.clk },
           state := if m.serial.base.evEnd then .transfer else m.state }

/-- `TRANSFER` with END_TARGET = `CSN_HI` (43_generic_encoder.md R191, R193), then the chip-select action
(45_spi_extension.md R222). -/
def Spi.transferTick (m : Spi) : Spi :=
  { m with serial := m.serial.transferTick m.par.toDims,
           csn := if m.serial.base.evData then false else m.csn,
           state := if m.serial.transferEnds then .csnHi else m.state }

/-- `CSN_HI` (45_spi_extension.md R223): the clock is raised and not lowered. -/
def Spi.csnHiTick (m : Spi) : Spi :=
  { m with serial := { m.serial.holdTick m.par.toDims with
             clk := if m.serial.base.evClkHigh then true else m.serial.clk },
           csn := if m.serial.base.evData then true else m.csn,
           state := if m.serial.base.evEnd then .wait else m.state }

def execSpiWait (s : State) : Result := .next (s.withSpi s.spi.waitTick)

def execSpiTransfer (s : State) : Result := .next (s.withSpi s.spi.transferTick)

def execSpiFirstclk (s : State) : Result := .next (s.withSpi s.spi.firstclkTick)

def execSpiCsnHi (s : State) : Result := .next (s.withSpi s.spi.csnHiTick)

/-- SPI `end_cycle`, index 0. -/
def execCfgSpiEndCycle (a : CfgAccess) (s : State) : Result :=
  .next (s.withSpi (s.spi.access a s.spi.serial.base.endCycle fun v =>
    { s.spi with serial := { s.spi.serial with base := s.spi.serial.base.storeEndCycle s.spi.par.cycleBits v } }))

/-- SPI `clk_high`, index 1. -/
def execCfgSpiClkHigh (a : CfgAccess) (s : State) : Result :=
  .next (s.withSpi (s.spi.access a s.spi.serial.base.clkHigh fun v =>
    { s.spi with serial := { s.spi.serial with base := s.spi.serial.base.storeClkHigh s.spi.par.cycleBits v } }))

/-- SPI `data`, index 2. -/
def execCfgSpiData (a : CfgAccess) (s : State) : Result :=
  .next (s.withSpi (s.spi.access a s.spi.serial.base.data fun v =>
    { s.spi with serial := { s.spi.serial with base := s.spi.serial.base.storeData s.spi.par.cycleBits v } }))

/-- SPI `bb_en`, index 3: a write stores `v[0]`. -/
def execCfgSpiBbEn (a : CfgAccess) (s : State) : Result :=
  .next (s.withSpi (s.spi.access a (zextBit s.spi.overlay.bbEn) fun v =>
    { s.spi with overlay := { s.spi.overlay with bbEn := bit0 v } }))

/-- SPI `bb_out`, index 4: a write stores `v[2:0]`. -/
def execCfgSpiBbOut (a : CfgAccess) (s : State) : Result :=
  .next (s.withSpi (s.spi.access a s.spi.overlay.bbOut.toNat fun v =>
    { s.spi with overlay := { s.spi.overlay with bbOut := low3 v } }))

/-- SPI `sdi_in`, index 5: read-only, a write changes nothing (20_memory.md R76). -/
def execCfgSpiSdiIn (a : CfgAccess) (s : State) : Result :=
  .next (s.withSpi (s.spi.access a (zextBit s.spi.overlay.sync2) fun _ => s.spi))

end Sys2Proof.Machine
end

