-- ==== Sys2Proof/Machine/Dispatch.lean ====
section
/-! DEFINITION. Machine/Dispatch.lean: each instruction's meaning. -/

namespace Sys2Proof.Machine

def exec (i : Instr) (s : State) : Host.Outcome State Fault Refusal :=
  match i with
  | .i2cWait => Sys2Proof.Machine.execI2cWait s
  | .i2cStart => Sys2Proof.Machine.execI2cStart s
  | .i2cTransfer => Sys2Proof.Machine.execI2cTransfer s
  | .i2cAck => Sys2Proof.Machine.execI2cAck s
  | .i2cStop => Sys2Proof.Machine.execI2cStop s
  | .genWait => Sys2Proof.Machine.execGenWait s
  | .genTransfer => Sys2Proof.Machine.execGenTransfer s
  | .attWait => Sys2Proof.Machine.execAttWait s
  | .attTransfer => Sys2Proof.Machine.execAttTransfer s
  | .attLatch => Sys2Proof.Machine.execAttLatch s
  | .spiWait => Sys2Proof.Machine.execSpiWait s
  | .spiTransfer => Sys2Proof.Machine.execSpiTransfer s
  | .spiFirstclk => Sys2Proof.Machine.execSpiFirstclk s
  | .spiCsnHi => Sys2Proof.Machine.execSpiCsnHi s
  | .cfgI2cEndCycle a => Sys2Proof.Machine.execCfgI2cEndCycle a s
  | .cfgI2cClkHigh a => Sys2Proof.Machine.execCfgI2cClkHigh a s
  | .cfgI2cData a => Sys2Proof.Machine.execCfgI2cData a s
  | .cfgI2cStart a => Sys2Proof.Machine.execCfgI2cStart a s
  | .cfgI2cStopLow a => Sys2Proof.Machine.execCfgI2cStopLow a s
  | .cfgI2cStopHigh a => Sys2Proof.Machine.execCfgI2cStopHigh a s
  | .cfgI2cBbEn a => Sys2Proof.Machine.execCfgI2cBbEn a s
  | .cfgI2cBbOut a => Sys2Proof.Machine.execCfgI2cBbOut a s
  | .cfgI2cSdaIn a => Sys2Proof.Machine.execCfgI2cSdaIn a s
  | .cfgGenEndCycle a => Sys2Proof.Machine.execCfgGenEndCycle a s
  | .cfgGenClkHigh a => Sys2Proof.Machine.execCfgGenClkHigh a s
  | .cfgGenData a => Sys2Proof.Machine.execCfgGenData a s
  | .cfgAttEndCycle a => Sys2Proof.Machine.execCfgAttEndCycle a s
  | .cfgAttClkHigh a => Sys2Proof.Machine.execCfgAttClkHigh a s
  | .cfgAttData a => Sys2Proof.Machine.execCfgAttData a s
  | .cfgAttLeHigh a => Sys2Proof.Machine.execCfgAttLeHigh a s
  | .cfgAttLeLow a => Sys2Proof.Machine.execCfgAttLeLow a s
  | .cfgSpiEndCycle a => Sys2Proof.Machine.execCfgSpiEndCycle a s
  | .cfgSpiClkHigh a => Sys2Proof.Machine.execCfgSpiClkHigh a s
  | .cfgSpiData a => Sys2Proof.Machine.execCfgSpiData a s
  | .cfgSpiBbEn a => Sys2Proof.Machine.execCfgSpiBbEn a s
  | .cfgSpiBbOut a => Sys2Proof.Machine.execCfgSpiBbOut a s
  | .cfgSpiSdiIn a => Sys2Proof.Machine.execCfgSpiSdiIn a s

end Sys2Proof.Machine
end

