-- ==== Sys2Proof/WellFormed.lean ====
section
/-! DEFINITION. WellFormed.lean: which instructions the model's byte form can carry. The one check is on the value of a
configuration write: the byte form gives it eight bytes (log 8). The meanings need no check: they are defined for every
value (20_memory.md R74). -/

namespace Sys2Proof

/-- The bound of the value operand of a write in the byte form (log 8, DESIGN CHOICE, safe). -/
def valueBound : Nat := 2 ^ 64

/-- A written value fits the eight value bytes. -/
def CfgAccess.wellFormed : CfgAccess → Bool
  | .read => true
  | .write v => decide (v < valueBound)

/-- The access operand of a register row; a state row has none. -/
def Instr.access : Instr → Option CfgAccess
  | .i2cWait | .i2cStart | .i2cTransfer | .i2cAck | .i2cStop | .genWait | .genTransfer | .attWait | .attTransfer
  | .attLatch | .spiWait | .spiTransfer | .spiFirstclk | .spiCsnHi => none
  | .cfgI2cEndCycle a | .cfgI2cClkHigh a | .cfgI2cData a | .cfgI2cStart a | .cfgI2cStopLow a | .cfgI2cStopHigh a
  | .cfgI2cBbEn a | .cfgI2cBbOut a | .cfgI2cSdaIn a | .cfgGenEndCycle a | .cfgGenClkHigh a | .cfgGenData a
  | .cfgAttEndCycle a | .cfgAttClkHigh a | .cfgAttData a | .cfgAttLeHigh a | .cfgAttLeLow a | .cfgSpiEndCycle a
  | .cfgSpiClkHigh a | .cfgSpiData a | .cfgSpiBbEn a | .cfgSpiBbOut a | .cfgSpiSdiIn a => some a

/-- The instruction has a byte form. -/
def Instr.wellFormed (i : Instr) : Bool :=
  match i.access with
  | none => true
  | some a => a.wellFormed

end Sys2Proof
end

