-- ==== Sys2Proof/Decode.lean ====
section
/-! DEFINITION. Decode.lean: the decoders of state codes and of register indices (30_encoding.md R108), the model's byte
form of an instruction that carries either with its context, and the encoder. -/

namespace Sys2Proof

/-- A state code read against its own variant's table (30_encoding.md R95, R109). The codes R97 lists as unused, and
every number wider than the variant's state register, name no state. -/
def decodeState : Variant → Nat → Option Instr
  | .i2c, 0 => some .i2cWait
  | .i2c, 1 => some .i2cStart
  | .i2c, 2 => some .i2cTransfer
  | .i2c, 3 => some .i2cAck
  | .i2c, 4 => some .i2cStop
  | .gen, 0 => some .genWait
  | .gen, 1 => some .genTransfer
  | .att, 0 => some .attWait
  | .att, 1 => some .attTransfer
  | .att, 2 => some .attLatch
  | .spi, 0 => some .spiWait
  | .spi, 1 => some .spiTransfer
  | .spi, 2 => some .spiFirstclk
  | .spi, 3 => some .spiCsnHi
  | _, _ => none

/-- A register index read against its variant's column of 30_encoding.md R100; an empty index names no register
(30_encoding.md R110). -/
def decodeCfg : Variant → Nat → CfgAccess → Option Instr
  | .i2c, 0, a => some (.cfgI2cEndCycle a)
  | .i2c, 1, a => some (.cfgI2cClkHigh a)
  | .i2c, 2, a => some (.cfgI2cData a)
  | .i2c, 3, a => some (.cfgI2cStart a)
  | .i2c, 4, a => some (.cfgI2cStopLow a)
  | .i2c, 5, a => some (.cfgI2cStopHigh a)
  | .i2c, 6, a => some (.cfgI2cBbEn a)
  | .i2c, 7, a => some (.cfgI2cBbOut a)
  | .i2c, 8, a => some (.cfgI2cSdaIn a)
  | .gen, 0, a => some (.cfgGenEndCycle a)
  | .gen, 1, a => some (.cfgGenClkHigh a)
  | .gen, 2, a => some (.cfgGenData a)
  | .att, 0, a => some (.cfgAttEndCycle a)
  | .att, 1, a => some (.cfgAttClkHigh a)
  | .att, 2, a => some (.cfgAttData a)
  | .att, 3, a => some (.cfgAttLeHigh a)
  | .att, 4, a => some (.cfgAttLeLow a)
  | .spi, 0, a => some (.cfgSpiEndCycle a)
  | .spi, 1, a => some (.cfgSpiClkHigh a)
  | .spi, 2, a => some (.cfgSpiData a)
  | .spi, 3, a => some (.cfgSpiBbEn a)
  | .spi, 4, a => some (.cfgSpiBbOut a)
  | .spi, 5, a => some (.cfgSpiSdiIn a)
  | _, _, _ => none

/-- Why bytes name no instruction. -/
inductive DecodeError
  /-- the bytes end inside the instruction -/
  | truncated
  /-- the context byte is none of the nine -/
  | badContext
  /-- an unused state code or an empty register index of the context (30_encoding.md R110) -/
  | reservedCode
  /-- the access byte is neither read nor write -/
  | badAccess
deriving DecidableEq, Repr

/-- The rows of the opcode table in its order, state rows first. -/
def tableOrder : List Row :=
  (List.range 5).map (.state .i2c) ++ (List.range 2).map (.state .gen) ++ (List.range 3).map (.state .att) ++
    (List.range 4).map (.state .spi) ++ (List.range 9).map (.cfg .i2c) ++ (List.range 3).map (.cfg .gen) ++
    (List.range 5).map (.cfg .att) ++ (List.range 6).map (.cfg .spi)

/-- The row a code names in a context byte (log 7, DESIGN CHOICE). The spec fixes the context by construction (which
instance, and whether its state register or its configuration surface reads the code, 30_encoding.md R109), so the
model's byte form names it: 1 to 4 the state table of I2C, GEN, ATT, SPI, 5 to 8 their register columns. A context byte
of 0 gives none: the first row of the opcode table that has the code. -/
def rowIn : Nat → Nat → Except DecodeError Row
  | 0, code =>
    match tableOrder.find? (fun r => r.code == code) with
    | some r => .ok r
    | none => .error .reservedCode
  | 1, code => .ok (.state .i2c code)
  | 2, code => .ok (.state .gen code)
  | 3, code => .ok (.state .att code)
  | 4, code => .ok (.state .spi code)
  | 5, code => .ok (.cfg .i2c code)
  | 6, code => .ok (.cfg .gen code)
  | 7, code => .ok (.cfg .att code)
  | 8, code => .ok (.cfg .spi code)
  | _, _ => .error .badContext

/-- The value of a write, eight bytes, lowest byte first (log 8). -/
def valueOfBytes (b0 b1 b2 b3 b4 b5 b6 b7 : Byte) : Nat :=
  b0.toNat + 256 * (b1.toNat + 256 * (b2.toNat + 256 * (b3.toNat + 256 * (b4.toNat + 256 * (b5.toNat + 256 *
    (b6.toNat + 256 * b7.toNat))))))

/-- The access operand of a register row: 0 a read, 1 a write followed by its value. -/
def decodeAccess : List Byte → Except DecodeError (CfgAccess × List Byte)
  | [] => .error .truncated
  | k :: rest =>
    if k = 0 then .ok (.read, rest)
    else if k = 1 then
      match rest with
      | b0 :: b1 :: b2 :: b3 :: b4 :: b5 :: b6 :: b7 :: rest' =>
        .ok (.write (valueOfBytes b0 b1 b2 b3 b4 b5 b6 b7), rest')
      | _ => .error .truncated
    else .error .badAccess

/-- The decoder of the byte form, total on any bytes: code, context, and for a register row its access. It answers the
instruction and the bytes after it. -/
def decode : List Byte → Except DecodeError (Instr × List Byte)
  | code :: context :: rest =>
    match rowIn context.toNat code.toNat with
    | .error e => .error e
    | .ok (.state v c) =>
      match decodeState v c with
      | some i => .ok (i, rest)
      | none => .error .reservedCode
    | .ok (.cfg v c) =>
      match decodeAccess rest with
      | .error e => .error e
      | .ok (a, rest') =>
        match decodeCfg v c a with
        | some i => .ok (i, rest')
        | none => .error .reservedCode
  | _ => .error .truncated

/-- The row of an instruction: its code or index from the tables of 30_encoding.md R95 and R100. -/
def Instr.row : Instr → Row
  | .i2cWait => .state .i2c 0
  | .i2cStart => .state .i2c 1
  | .i2cTransfer => .state .i2c 2
  | .i2cAck => .state .i2c 3
  | .i2cStop => .state .i2c 4
  | .genWait => .state .gen 0
  | .genTransfer => .state .gen 1
  | .attWait => .state .att 0
  | .attTransfer => .state .att 1
  | .attLatch => .state .att 2
  | .spiWait => .state .spi 0
  | .spiTransfer => .state .spi 1
  | .spiFirstclk => .state .spi 2
  | .spiCsnHi => .state .spi 3
  | .cfgI2cEndCycle _ => .cfg .i2c 0
  | .cfgI2cClkHigh _ => .cfg .i2c 1
  | .cfgI2cData _ => .cfg .i2c 2
  | .cfgI2cStart _ => .cfg .i2c 3
  | .cfgI2cStopLow _ => .cfg .i2c 4
  | .cfgI2cStopHigh _ => .cfg .i2c 5
  | .cfgI2cBbEn _ => .cfg .i2c 6
  | .cfgI2cBbOut _ => .cfg .i2c 7
  | .cfgI2cSdaIn _ => .cfg .i2c 8
  | .cfgGenEndCycle _ => .cfg .gen 0
  | .cfgGenClkHigh _ => .cfg .gen 1
  | .cfgGenData _ => .cfg .gen 2
  | .cfgAttEndCycle _ => .cfg .att 0
  | .cfgAttClkHigh _ => .cfg .att 1
  | .cfgAttData _ => .cfg .att 2
  | .cfgAttLeHigh _ => .cfg .att 3
  | .cfgAttLeLow _ => .cfg .att 4
  | .cfgSpiEndCycle _ => .cfg .spi 0
  | .cfgSpiClkHigh _ => .cfg .spi 1
  | .cfgSpiData _ => .cfg .spi 2
  | .cfgSpiBbEn _ => .cfg .spi 3
  | .cfgSpiBbOut _ => .cfg .spi 4
  | .cfgSpiSdiIn _ => .cfg .spi 5

/-- The context byte of a row. -/
def Row.context : Row → Nat
  | .state .i2c _ => 1
  | .state .gen _ => 2
  | .state .att _ => 3
  | .state .spi _ => 4
  | .cfg .i2c _ => 5
  | .cfg .gen _ => 6
  | .cfg .att _ => 7
  | .cfg .spi _ => 8

/-- The lowest `n` bytes of a number, lowest byte first. -/
def bytesOf : Nat → Nat → List Byte
  | 0, _ => []
  | n + 1, v => BitVec.ofNat 8 v :: bytesOf n (v / 256)

/-- The bytes of an access operand. -/
def encodeAccess : CfgAccess → List Byte
  | .read => [0]
  | .write v => 1 :: bytesOf 8 v

/-- The byte form of an instruction. -/
def encode (i : Instr) : List Byte :=
  BitVec.ofNat 8 i.row.code :: BitVec.ofNat 8 i.row.context ::
    match i.access with
    | none => []
    | some a => encodeAccess a

/-- The longest byte form: code, context, access and eight value bytes. -/
def maxBytes : Nat := 11

/-- The instruction the decoder reads from a table word: the word's bytes, and zeros up to the longest byte form. The
context byte is then 0, so a word that several rows of the table share gives the first of them (log 7). -/
def decodeTableWord (nbits w : Nat) : Option Instr :=
  match decode (bytesOf (max maxBytes ((nbits + 7) / 8)) (w % 2 ^ nbits)) with
  | .ok (i, _) => some i
  | .error _ => none

end Sys2Proof
end

