-- ==== Sys2Proof/Machine/Outputs.lean ====
section
/-! DEFINITION. Machine/Outputs.lean: the combinational outputs of an instance beside `busy` and `idle`
(46_host_interface.md R256): its pads, through the bit-bang overlay where the variant has one. -/

namespace Sys2Proof.Machine

/-- The pads of I2C (42_i2c_encoder.md R165). With `sdaOe` the core drives the data wire to `sdaO`, else it releases it. -/
structure I2cPads where
  scl : Bool
  sdaO : Bool
  sdaOe : Bool
deriving DecidableEq, Repr

/-- The pads of GEN (43_generic_encoder.md R195). -/
structure GenPads where
  clk : Bool
  sdo : Bool
deriving DecidableEq, Repr

/-- The pads of ATT (44_attenuator_latch.md R211). -/
structure AttPads where
  clk : Bool
  sdo : Bool
  le : Bool
deriving DecidableEq, Repr

/-- The pads of SPI (45_spi_extension.md R227). -/
structure SpiPads where
  clk : Bool
  sdo : Bool
  csn : Bool
deriving DecidableEq, Repr

/-- The I2C pads through the overlay, with the layout of 30_encoding.md R104 (42_i2c_encoder.md R166). -/
def I2c.pads (m : I2c) : I2cPads :=
  if m.overlay.bbEn then
    { scl := m.overlay.bbOut.getLsbD 0, sdaO := m.overlay.bbOut.getLsbD 1, sdaOe := m.overlay.bbOut.getLsbD 2 }
  else { scl := m.scl, sdaO := m.sdaO, sdaOe := m.sdaOe }

def Gen.pads (m : Gen) : GenPads := { clk := m.serial.clk, sdo := m.serial.sdo }

def Att.pads (m : Att) : AttPads := { clk := m.serial.clk, sdo := m.serial.sdo, le := m.le }

/-- The SPI pads through the overlay, with the layout of 30_encoding.md R105 (45_spi_extension.md R227). -/
def Spi.pads (m : Spi) : SpiPads :=
  if m.overlay.bbEn then
    { clk := m.overlay.bbOut.getLsbD 0, sdo := m.overlay.bbOut.getLsbD 1, csn := m.overlay.bbOut.getLsbD 2 }
  else { clk := m.serial.clk, sdo := m.serial.sdo, csn := m.csn }

end Sys2Proof.Machine
end

