-- ==== Sys2Proof/Machine/Script.lean ====
section
/-! DEFINITION. Machine/Script.lean: the host agent. It runs the host-script notation of 30_encoding.md R111 to R113 and
presents each tick's inputs; and the bus in front of a configuration surface, `cfg_map` (20_memory.md R72). -/

namespace Sys2Proof.Machine

/-- The inputs of a tick in which the instance shows `busy`, the line level after it, and the statements that remain
(30_encoding.md R112). `submit` ends after the first tick with `idle` = 1; `wait_idle`, `line` and `tick 0` use no tick when
they are done, and leave the tick to the next statement. -/
def present (busy : Bool) (line : Bool) : List Stmt → TickInput × Bool × List Stmt
  | [] => (TickInput.quiet line, line, [])
  | .write r v :: k => ({ TickInput.quiet line with cfgWr := some { index := r, value := v } }, line, k)
  | .read r :: k => ({ TickInput.quiet line with cfgRd := some r }, line, k)
  | .submit p :: k =>
    ({ TickInput.quiet line with dataReady := true, payload := p }, line, if busy then .submit p :: k else k)
  | .tick 0 :: k => present busy line k
  | .tick (n + 1) :: k => (TickInput.quiet line, line, .tick n :: k)
  | .waitIdle :: k => if busy then (TickInput.quiet line, line, .waitIdle :: k) else present busy line k
  | .line b :: k => present busy b k
  | .rst :: k => ({ TickInput.quiet line with rst := true }, line, k)
  | .drive inp :: k => (inp, line, k)

/-- The agents present the inputs of the next tick, in which the instance shows `busy`. -/
def Port.advance (busy : Bool) (p : Port) : Port :=
  { p with inp := (present busy p.line p.script).1,
           line := (present busy p.line p.script).2.1,
           script := (present busy p.line p.script).2.2 }

/-- Load a host script that starts in the current tick of the instance (30_encoding.md R111, log 12). Before its first `line`
the external line keeps the level that the script before it left, a tick with `rst` = 1 between them or not: DESIGN CHOICE,
unsafe (log 22). At power-up that level is 1. -/
def State.loadScript (s : State) (v : Variant) (script : List Stmt) : State :=
  s.withPort v (({ s.port v with script := script }).advance (s.busy v))

/-- The access a bus address names through `cfg_map`; an address the map does not hold is outside the core
(20_memory.md R72, R73; log 13). -/
def busInstr (m : Config.CfgMap) (address : Nat) (a : CfgAccess) : Option Instr :=
  match m.find? (fun e => e.address == address) with
  | some e => decodeCfg e.variant e.index.toNat a
  | none => none

end Sys2Proof.Machine
end

