-- ==== Sys2Proof/Machine/Tick.lean ====
section
/-! DEFINITION. Machine/Tick.lean: one tick of one instance (46_host_interface.md R255): the configuration read, then the
state rule or the reset, then the configuration write, then the synchronizer; last the agents present the inputs of the next
tick. The parts write disjoint registers, and each reads the values of the tick's start (log 17). -/

namespace Sys2Proof.Machine

/-- Run the instruction a state code names. -/
def runFetched (i : Option Instr) (s : State) : Result :=
  match i with
  | some i => exec i s
  | none => .refused .unusedStateCode

/-- Run the configuration access a register index names (20_memory.md R73; log 10). -/
def runAccess (i : Option Instr) (s : State) : Result :=
  match i with
  | some i => exec i s
  | none => .refused .emptyRegisterIndex

/-- The read data of the tick before is gone (log 6). -/
def State.clearRdata (s : State) (v : Variant) : State := s.withPort v { s.port v with rdata := none }

/-- The configuration read of the tick, if any. It comes first: it returns the value before a write or a reset of the
same tick (20_memory.md R84; 46_host_interface.md R245, corner case (c)). -/
def readPart (v : Variant) (s : State) : Result :=
  match (s.port v).inp.cfgRd with
  | none => .next (s.clearRdata v)
  | some r => runAccess (decodeCfg v r.toNat .read) s

/-- The state rule, fetched by the state register's code; or the reset in its place (70_reset_and_hazards.md R295). -/
def statePart (v : Variant) (s : State) : Result :=
  if (s.port v).inp.rst then .next (s.applyReset v) else runFetched (decodeState v (s.stateCode v)) s

/-- The configuration write of the tick, if any; the access itself does nothing when `rst` = 1 (46_host_interface.md
R247). -/
def writePart (v : Variant) (s : State) : Result :=
  match (s.port v).inp.cfgWr with
  | none => .next s
  | some w => runAccess (decodeCfg v w.index.toNat (.write w.value)) s

/-- The synchronizer of the variants that have one, in every tick (46_host_interface.md R252). -/
def State.syncPart (s : State) : Variant → State
  | .i2c => s.withI2c { s.i2c with overlay := s.i2c.overlay.sync s.i2c.port.inp.pin }
  | .gen => s
  | .att => s
  | .spi => s.withSpi { s.spi with overlay := s.spi.overlay.sync s.spi.port.inp.pin }

/-- The end of the tick: the synchronizer, and the inputs of the next tick. -/
def endPart (v : Variant) (s : State) : State :=
  let s' := s.syncPart v
  s'.withPort v ((s'.port v).advance (s'.busy v))

/-- One tick of the instance of variant `v`. -/
def tickInstance (v : Variant) (s : State) : Result :=
  andThen (readPart v s) fun s1 =>
    andThen (statePart v s1) fun s2 =>
      andThen (writePart v s2) fun s3 => .next (endPart v s3)

end Sys2Proof.Machine
end

