-- ==== Sys2Proof/Machine/Step.lean ====
section
/-! DEFINITION. Machine/Step.lean: one tick of the machine, and where an instruction is put for the next tick to run it. -/

namespace Sys2Proof.Machine

/-- One global tick: every instance advances once (00_scope.md R13; 20_memory.md R82). They share no state, so the order
of the four does not matter (46_host_interface.md R257). -/
def step (s : State) : Host.Outcome State Fault Refusal :=
  andThen (tickInstance .i2c s) fun s1 =>
    andThen (tickInstance .gen s1) fun s2 =>
      andThen (tickInstance .att s2) (tickInstance .spi)

/-- The inputs of a tick that makes one configuration access or none. -/
def TickInput.withAccess (inp : TickInput) (rd : Option RegIndex) (wr : Option CfgWrite) : TickInput :=
  { inp with rst := false, cfgRd := rd, cfgWr := wr }

/-- Put an instruction where the next tick fetches it: a state row in its instance's state register, a register access on
its instance's configuration port (log 12). -/
def State.place (s : State) (i : Instr) : State :=
  let v := i.row.variant
  let p := s.port v
  match i.access with
  | none => (s.withPort v { p with inp := p.inp.withAccess none none }).withStateCode v i.row.code
  | some .read => s.withPort v { p with inp := p.inp.withAccess (some (BitVec.ofNat 4 i.row.code)) none }
  | some (.write x) =>
    s.withPort v { p with inp := p.inp.withAccess none (some { index := BitVec.ofNat 4 i.row.code, value := x }) }

/-- Put the instruction of a table word where the next tick fetches it. A word that names none is put as an access to an
index no variant has, so that the step refuses it. -/
def State.withFetchWord (s : State) (nbits w : Nat) : State :=
  match decodeTableWord nbits w with
  | some i => s.place i
  | none => s.withPort .i2c { s.i2c.port with inp := s.i2c.port.inp.withAccess (some 15#4) none }

end Sys2Proof.Machine
end

