-- ==== Sys2Proof/Safety.lean ====
section
/-! DEFINITION. Safety.lean: what counts as a well-formed state, a valid configuration and a safe run, in the terms the
claims use. -/

namespace Sys2Proof.Machine

open Sys2Proof.Config

/-- The common registers fit their widths (10_state.md R33 to R36). -/
structure Base.InRange (d : Dims) (b : Base) : Prop where
  cnt : d.Fits b.cnt
  endCycle : d.Fits b.endCycle
  clkHigh : d.Fits b.clkHigh
  data : d.Fits b.data
  sr : b.sr < 2 ^ d.width
  rem : b.rem ≤ d.width

/-- Every register of an I2C instance fits its width, and its parameters are legal. -/
structure I2c.InRange (m : I2c) : Prop where
  par : m.par.Legal
  base : m.base.InRange m.par.toDims
  start : m.par.Fits m.start
  stopLow : m.par.Fits m.stopLow
  stopHigh : m.par.Fits m.stopHigh

structure Gen.InRange (m : Gen) : Prop where
  par : m.par.Legal
  base : m.serial.base.InRange m.par.toDims

structure Att.InRange (m : Att) : Prop where
  par : m.par.Legal
  base : m.serial.base.InRange m.par.toDims
  leHigh : m.par.Fits m.leHigh
  leLow : m.par.Fits m.leLow
  lcnt : m.par.Fits m.lcnt

structure Spi.InRange (m : Spi) : Prop where
  par : m.par.Legal
  base : m.serial.base.InRange m.par.toDims

/-- The invariant of the machine: every register holds a value of its width (10_state.md R50, log 16). -/
structure State.InRange (s : State) : Prop where
  i2c : s.i2c.InRange
  gen : s.gen.InRange
  att : s.att.InRange
  spi : s.spi.InRange

/-- Every access on the instance's inputs names a register of its variant (30_encoding.md R100): the accesses the spec
gives a meaning. -/
abbrev TickInput.NamesRegisters (v : Variant) (inp : TickInput) : Prop :=
  (∀ r, inp.cfgRd = some r → (decodeCfg v r.toNat .read).isSome) ∧
    ∀ w, inp.cfgWr = some w → (decodeCfg v w.index.toNat (.write w.value)).isSome

/-- Every access of the tick names a register, on every instance. -/
def State.AccessesNamed (s : State) : Prop := ∀ v, (s.port v).inp.NamesRegisters v

/-- (V1) for I2C: every timing register compared with `cnt` is less than `end_cycle` (70_reset_and_hazards.md R305). -/
structure I2c.ValidTiming (m : I2c) : Prop where
  clkHigh : m.base.clkHigh < m.base.endCycle
  data : m.base.data < m.base.endCycle
  start : m.start < m.base.endCycle
  stopLow : m.stopLow < m.base.endCycle
  stopHigh : m.stopHigh < m.base.endCycle

/-- (V1) for GEN, ATT and SPI (70_reset_and_hazards.md R305). -/
structure Serial.ValidTiming (x : Serial) : Prop where
  clkHigh : x.base.clkHigh < x.base.endCycle
  data : x.base.data < x.base.endCycle

/-- (V3) `rst` = 0 (70_reset_and_hazards.md R305). -/
abbrev TickInput.NoReset (inp : TickInput) : Prop := inp.rst = false

/-- The first index of a variant's column that is neither a timing register nor `bb_en` (30_encoding.md R100). -/
def firstUnheldIndex : Variant → Nat
  | .i2c => 7
  | .gen => 3
  | .att => 5
  | .spi => 4

/-- (V2) no timing register, and for I2C and SPI not `bb_en`, is written in the tick (70_reset_and_hazards.md R305). -/
abbrev TickInput.ConfigHeld (v : Variant) (inp : TickInput) : Prop :=
  ∀ w, inp.cfgWr = some w → firstUnheldIndex v ≤ w.index.toNat

/-- The I2C conditions of a well-timed configuration (70_reset_and_hazards.md R306), V1 included. -/
structure I2c.WellTimed (m : I2c) : Prop where
  valid : m.ValidTiming
  dataLow : m.base.data < m.base.clkHigh
  stopLow : m.stopLow < m.base.clkHigh
  stopHigh : m.base.clkHigh < m.stopHigh

/-- The condition of a well-timed configuration on the generic encoder (70_reset_and_hazards.md R306), V1 included. -/
structure Serial.WellTimed (x : Serial) : Prop where
  valid : x.ValidTiming
  dataLow : x.base.data < x.base.clkHigh

/-- Where the I2C lines stand in each state of a well-timed transaction (42_i2c_encoder.md R168 to R170): high in `WAIT`,
the clock high through `START`, the clock high after `clk_high` elsewhere, the data line low from the start event and
between the stop events. -/
structure I2c.Phase (m : I2c) : Prop where
  cnt : m.state ≠ .wait → m.base.cnt ≤ m.base.endCycle
  wait : m.state = .wait → m.scl = true ∧ m.sdaO = true
  start : m.state = .start → m.scl = true ∧ m.sdaO = decide (m.base.cnt ≤ m.start)
  clocked : m.state = .transfer ∨ m.state = .ack ∨ m.state = .stop → m.scl = decide (m.base.clkHigh < m.base.cnt)
  stopLow : m.state = .stop → m.stopLow < m.base.cnt → m.base.cnt ≤ m.stopHigh → m.sdaO = false
  stopHigh : m.state = .stop → m.stopHigh < m.base.cnt → m.sdaO = true

/-- Where the GEN clock stands in a valid transaction (43_generic_encoder.md R197). -/
structure Gen.Phase (m : Gen) : Prop where
  wait : m.state = .wait → m.serial.clk = false
  cnt : m.state = .transfer → m.serial.base.cnt ≤ m.serial.base.endCycle
  transfer : m.state = .transfer → m.serial.clk = decide (m.serial.base.clkHigh < m.serial.base.cnt)

/-- Where the ATT clock and latch-enable line stand in a valid transaction (43_generic_encoder.md R197,
44_attenuator_latch.md R213). -/
structure Att.Phase (m : Att) : Prop where
  rest : m.state ≠ .transfer → m.serial.clk = false
  cnt : m.state = .transfer → m.serial.base.cnt ≤ m.serial.base.endCycle
  transfer : m.state = .transfer → m.serial.clk = decide (m.serial.base.clkHigh < m.serial.base.cnt)
  leLow : m.state ≠ .latch → m.le = false
  lcnt : m.state = .latch → m.lcnt ≤ m.leLow
  latch : m.state = .latch → m.le = decide (m.leHigh < m.lcnt)

/-- Where the SPI clock and chip select stand in a valid transaction (45_spi_extension.md R221 to R223, R230). -/
structure Spi.Phase (m : Spi) : Prop where
  rest : m.state = .wait ∨ m.state = .firstclk → m.serial.clk = true ∧ m.csn = true
  loaded : m.state = .firstclk → m.serial.base.rem = m.par.width
  cnt : m.state ≠ .wait → m.serial.base.cnt ≤ m.serial.base.endCycle
  clocked : m.state = .transfer ∨ m.state = .csnHi →
    m.serial.clk = decide (m.serial.base.clkHigh < m.serial.base.cnt)
  select : m.state = .transfer → m.csn = decide (m.serial.base.rem = m.par.width)
  deselect : m.state = .csnHi → m.csn = decide (m.serial.base.data < m.serial.base.cnt)

/-- A run of `n` ticks: `f k` is the machine in tick `k`. -/
def IsRun (f : Nat → State) (n : Nat) : Prop := ∀ k < n, step (f k) = .next (f (k + 1))

/-- The premise of every property of a transaction: no underflow has been recorded (60_exceptions.md R273). -/
structure State.NoUnderflow (s : State) : Prop where
  i2c : s.i2c.base.faultUnderflow = false
  gen : s.gen.serial.base.faultUnderflow = false
  att : s.att.serial.base.faultUnderflow = false
  spi : s.spi.serial.base.faultUnderflow = false

end Sys2Proof.Machine
end

