-- ==== Sys2Proof/Certificates/Slice0/Obligations.lean ====
section
/-! DEFINITION. Certificates/Slice0/Obligations.lean: the statements for the provers. A result is written with the raw fields of
State, not with the model's operations, so that it can be held against the rule beside it. -/

section Statements

open Sys2Proof Sys2Proof.Machine

/-- The reset-value table of 10_state.md R50 with the values of R47, for every value of the parameters (the decisions D24 to D26,
D29 and D36 are the spec's own). No value the model chose is in it. -/
def Obligations.PowerUpValues : Prop :=
  ∀ p : Config.Params,
    ((State.powerUp p).i2c.state = .wait ∧
      (State.powerUp p).i2c.base = {
        cnt := 0, endCycle := p.i2c.tEndCycle, clkHigh := p.i2c.tClkHigh,
        data := p.i2c.tData, sr := 0, rem := p.i2c.width, faultUnderflow := false } ∧
      (State.powerUp p).i2c.start = p.i2c.tStart ∧ (State.powerUp p).i2c.stopLow = p.i2c.tStopLow ∧
      (State.powerUp p).i2c.stopHigh = p.i2c.tStopHigh ∧
      (State.powerUp p).i2c.scl = true ∧ (State.powerUp p).i2c.sdaO = true ∧
      (State.powerUp p).i2c.overlay = { bbEn := false, bbOut := 0b111#3, sync1 := p.i2c.sync1, sync2 := p.i2c.sync2 }) ∧
    ((State.powerUp p).gen.state = .wait ∧
      (State.powerUp p).gen.serial.base = {
        cnt := 0, endCycle := p.gen.tEndCycle, clkHigh := p.gen.tClkHigh,
        data := p.gen.tData, sr := 0, rem := p.gen.width, faultUnderflow := false } ∧
      (State.powerUp p).gen.serial.clk = false ∧ (State.powerUp p).gen.serial.sdo = false) ∧
    ((State.powerUp p).att.state = .wait ∧
      (State.powerUp p).att.serial.base = {
        cnt := 0, endCycle := 8, clkHigh := p.att.tClkHigh,
        data := p.att.tData, sr := 0, rem := p.att.width, faultUnderflow := false } ∧
      (State.powerUp p).att.leHigh = 5 ∧ (State.powerUp p).att.leLow = 15 ∧ (State.powerUp p).att.lcnt = 0 ∧
      (State.powerUp p).att.serial.clk = false ∧ (State.powerUp p).att.serial.sdo = false ∧
      (State.powerUp p).att.le = false) ∧
    ((State.powerUp p).spi.state = .wait ∧
      (State.powerUp p).spi.serial.base = {
        cnt := 0, endCycle := p.spi.tEndCycle, clkHigh := p.spi.tClkHigh,
        data := p.spi.tData, sr := 0, rem := p.spi.width, faultUnderflow := false } ∧
      (State.powerUp p).spi.serial.clk = true ∧ (State.powerUp p).spi.serial.sdo = false ∧
      (State.powerUp p).spi.csn = true ∧
      (State.powerUp p).spi.overlay = { bbEn := false, bbOut := 0b101#3, sync1 := p.spi.sync1, sync2 := p.spi.sync2 })

/-- The second half is about the reference parameters, a DESIGN CHOICE of the model (log 1, log 2, log 3). -/
def Obligations.PowerUpInRange : Prop :=
  (∀ p : Config.Params, p.Legal → (State.powerUp p).InRange) ∧ State.reset.InRange

/-- R155 with the load of R140 and the counter hold of R124 (D5). That the payload port is width bits wide is log 11. -/
def Obligations.I2cWaitResult : Prop :=
  ∀ s : State, exec .i2cWait s = .next { s with i2c := { s.i2c with
    state := if s.i2c.port.inp.dataReady = true then .start else s.i2c.state,
    base := { s.i2c.base with cnt := 0, sr := s.i2c.port.inp.payload % 2 ^ s.i2c.par.width, rem := s.i2c.par.width } } }

/-- R157 with the clock action of R156 (D7, D10) and the counter of R121 (D4). -/
def Obligations.I2cStartResult : Prop :=
  ∀ s : State, exec .i2cStart s = .next { s with i2c := { s.i2c with
    state := if s.i2c.base.cnt = s.i2c.base.endCycle then .transfer else s.i2c.state,
    scl := if s.i2c.base.cnt = s.i2c.base.endCycle then false else if s.i2c.base.cnt = s.i2c.base.clkHigh then true else s.i2c.scl,
    sdaO := if s.i2c.base.cnt = s.i2c.start then false else s.i2c.sdaO,
    base := { s.i2c.base with
      cnt := if s.i2c.base.cnt = s.i2c.base.endCycle then 0 else (s.i2c.base.cnt + 1) % 2 ^ s.i2c.par.cycleBits } } }

/-- R158 with the shift of R141 and R142 (D15, D16), the clock action of R156 (D7, D10) and the counter of R121 (D4). -/
def Obligations.I2cTransferResult : Prop :=
  ∀ s : State, exec .i2cTransfer s = .next { s with i2c := { s.i2c with
    state := if s.i2c.base.cnt = s.i2c.base.endCycle ∧ s.i2c.base.rem % 8 = 0 then .ack else s.i2c.state,
    scl := if s.i2c.base.cnt = s.i2c.base.endCycle then false else if s.i2c.base.cnt = s.i2c.base.clkHigh then true else s.i2c.scl,
    sdaO := if s.i2c.base.cnt = s.i2c.base.data then decide (s.i2c.base.sr % 2 = 1) else s.i2c.sdaO,
    base := { s.i2c.base with
      cnt := if s.i2c.base.cnt = s.i2c.base.endCycle then 0 else (s.i2c.base.cnt + 1) % 2 ^ s.i2c.par.cycleBits,
      sr := if s.i2c.base.cnt = s.i2c.base.data then s.i2c.base.sr / 2 else s.i2c.base.sr,
      rem := if s.i2c.base.cnt = s.i2c.base.data then s.i2c.base.rem - 1 else s.i2c.base.rem,
      faultUnderflow := s.i2c.base.faultUnderflow || decide (s.i2c.base.cnt = s.i2c.base.data ∧ s.i2c.base.rem = 0) } } }

/-- R159 with the clock action of R156 (D7, D10) and the counter of R121 (D4). -/
def Obligations.I2cAckResult : Prop :=
  ∀ s : State, exec .i2cAck s = .next { s with i2c := { s.i2c with
    state := if s.i2c.base.cnt = s.i2c.base.endCycle then (if s.i2c.base.rem = 0 then .stop else .transfer) else s.i2c.state,
    scl := if s.i2c.base.cnt = s.i2c.base.endCycle then false else if s.i2c.base.cnt = s.i2c.base.clkHigh then true else s.i2c.scl,
    base := { s.i2c.base with
      cnt := if s.i2c.base.cnt = s.i2c.base.endCycle then 0 else (s.i2c.base.cnt + 1) % 2 ^ s.i2c.par.cycleBits } } }

/-- R161 (D7, D10) with the counter of R121 (D4). -/
def Obligations.I2cStopResult : Prop :=
  ∀ s : State, exec .i2cStop s = .next { s with i2c := { s.i2c with
    state := if s.i2c.base.cnt = s.i2c.base.endCycle then .wait else s.i2c.state,
    scl := if s.i2c.base.cnt = s.i2c.base.clkHigh then true else s.i2c.scl,
    sdaO := if s.i2c.base.cnt = s.i2c.stopHigh then true else if s.i2c.base.cnt = s.i2c.stopLow then false else s.i2c.sdaO,
    base := { s.i2c.base with
      cnt := if s.i2c.base.cnt = s.i2c.base.endCycle then 0 else (s.i2c.base.cnt + 1) % 2 ^ s.i2c.par.cycleBits } } }

/-- R190 with the targets of R193, the load of R140 and the counter rules of R124 (D5) and R206 (D11). The width of the payload
port is log 11. -/
def Obligations.SerialWaitResults : Prop :=
  ∀ s : State,
    (exec .genWait s = .next { s with gen := { s.gen with
      state := if s.gen.port.inp.dataReady = true then .transfer else s.gen.state,
      serial := { s.gen.serial with base := { s.gen.serial.base with
        cnt := 0, sr := s.gen.port.inp.payload % 2 ^ s.gen.par.width, rem := s.gen.par.width } } } }) ∧
    (exec .attWait s = .next { s with att := { s.att with
      state := if s.att.port.inp.dataReady = true then .transfer else s.att.state,
      lcnt := 0,
      serial := { s.att.serial with base := { s.att.serial.base with
        cnt := 0, sr := s.att.port.inp.payload % 2 ^ s.att.par.width, rem := s.att.par.width } } } }) ∧
    (exec .spiWait s = .next { s with spi := { s.spi with
      state := if s.spi.port.inp.dataReady = true then .firstclk else s.spi.state,
      serial := { s.spi.serial with base := { s.spi.serial.base with
        cnt := 0, sr := s.spi.port.inp.payload % 2 ^ s.spi.par.width, rem := s.spi.par.width } } } })

/-- R191 with the target of R193, the shift of R141 and R142 (D15, D16), the clock action of R192 (D8, D10) and the counter of
R121 (D4). -/
def Obligations.GenTransferResult : Prop :=
  ∀ s : State, exec .genTransfer s = .next { s with gen := { s.gen with
    state := if s.gen.serial.base.cnt = s.gen.serial.base.endCycle ∧ s.gen.serial.base.rem = 0 then .wait else s.gen.state,
    serial := { s.gen.serial with
      clk := if s.gen.serial.base.cnt = s.gen.serial.base.endCycle then false else if s.gen.serial.base.cnt = s.gen.serial.base.clkHigh then true else s.gen.serial.clk,
      sdo := if s.gen.serial.base.cnt = s.gen.serial.base.data then decide (s.gen.serial.base.sr % 2 = 1) else s.gen.serial.sdo,
      base := { s.gen.serial.base with
      cnt := if s.gen.serial.base.cnt = s.gen.serial.base.endCycle then 0 else (s.gen.serial.base.cnt + 1) % 2 ^ s.gen.par.cycleBits,
      sr := if s.gen.serial.base.cnt = s.gen.serial.base.data then s.gen.serial.base.sr / 2 else s.gen.serial.base.sr,
      rem := if s.gen.serial.base.cnt = s.gen.serial.base.data then s.gen.serial.base.rem - 1 else s.gen.serial.base.rem,
      faultUnderflow := s.gen.serial.base.faultUnderflow || decide (s.gen.serial.base.cnt = s.gen.serial.base.data ∧ s.gen.serial.base.rem = 0) } } } }

/-- R191 with the target of R193, the shift of R141 and R142 (D15, D16), the clock action of R192 (D8, D10) and the counter of
R121 (D4). lcnt by R206 (D11). -/
def Obligations.AttTransferResult : Prop :=
  ∀ s : State, exec .attTransfer s = .next { s with att := { s.att with
    state := if s.att.serial.base.cnt = s.att.serial.base.endCycle ∧ s.att.serial.base.rem = 0 then .latch else s.att.state,
    lcnt := 0,
    serial := { s.att.serial with
      clk := if s.att.serial.base.cnt = s.att.serial.base.endCycle then false else if s.att.serial.base.cnt = s.att.serial.base.clkHigh then true else s.att.serial.clk,
      sdo := if s.att.serial.base.cnt = s.att.serial.base.data then decide (s.att.serial.base.sr % 2 = 1) else s.att.serial.sdo,
      base := { s.att.serial.base with
      cnt := if s.att.serial.base.cnt = s.att.serial.base.endCycle then 0 else (s.att.serial.base.cnt + 1) % 2 ^ s.att.par.cycleBits,
      sr := if s.att.serial.base.cnt = s.att.serial.base.data then s.att.serial.base.sr / 2 else s.att.serial.base.sr,
      rem := if s.att.serial.base.cnt = s.att.serial.base.data then s.att.serial.base.rem - 1 else s.att.serial.base.rem,
      faultUnderflow := s.att.serial.base.faultUnderflow || decide (s.att.serial.base.cnt = s.att.serial.base.data ∧ s.att.serial.base.rem = 0) } } } }

/-- R208 and R209 (D10, D12, D13), lcnt by R206 (D11), cnt by R121 (D4). -/
def Obligations.AttLatchResult : Prop :=
  ∀ s : State, exec .attLatch s = .next { s with att := { s.att with
    state := if s.att.lcnt = s.att.leLow then .wait else s.att.state,
    le := if s.att.lcnt = s.att.leLow then false else if s.att.lcnt = s.att.leHigh then true else s.att.le,
    lcnt := (s.att.lcnt + 1) % 2 ^ s.att.par.cycleBits,
    serial := { s.att.serial with
      base := { s.att.serial.base with
      cnt := if s.att.serial.base.cnt = s.att.serial.base.endCycle then 0 else (s.att.serial.base.cnt + 1) % 2 ^ s.att.par.cycleBits } } } }

/-- R221 (D43) with the clock action of R192 (D8, D10) and the counter of R121 (D4). -/
def Obligations.SpiFirstclkResult : Prop :=
  ∀ s : State, exec .spiFirstclk s = .next { s with spi := { s.spi with
    state := if s.spi.serial.base.cnt = s.spi.serial.base.endCycle then .transfer else s.spi.state,
    serial := { s.spi.serial with
      clk := if s.spi.serial.base.cnt = s.spi.serial.base.endCycle then false else if s.spi.serial.base.cnt = s.spi.serial.base.clkHigh then true else s.spi.serial.clk,
      base := { s.spi.serial.base with
      cnt := if s.spi.serial.base.cnt = s.spi.serial.base.endCycle then 0 else (s.spi.serial.base.cnt + 1) % 2 ^ s.spi.par.cycleBits } } } }

/-- R191 with the target of R193, the shift of R141 and R142 (D15, D16), the clock action of R192 (D8, D10) and the counter of
R121 (D4). Chip select by R222 (D44). -/
def Obligations.SpiTransferResult : Prop :=
  ∀ s : State, exec .spiTransfer s = .next { s with spi := { s.spi with
    state := if s.spi.serial.base.cnt = s.spi.serial.base.endCycle ∧ s.spi.serial.base.rem = 0 then .csnHi else s.spi.state,
    csn := if s.spi.serial.base.cnt = s.spi.serial.base.data then false else s.spi.csn,
    serial := { s.spi.serial with
      clk := if s.spi.serial.base.cnt = s.spi.serial.base.endCycle then false else if s.spi.serial.base.cnt = s.spi.serial.base.clkHigh then true else s.spi.serial.clk,
      sdo := if s.spi.serial.base.cnt = s.spi.serial.base.data then decide (s.spi.serial.base.sr % 2 = 1) else s.spi.serial.sdo,
      base := { s.spi.serial.base with
      cnt := if s.spi.serial.base.cnt = s.spi.serial.base.endCycle then 0 else (s.spi.serial.base.cnt + 1) % 2 ^ s.spi.par.cycleBits,
      sr := if s.spi.serial.base.cnt = s.spi.serial.base.data then s.spi.serial.base.sr / 2 else s.spi.serial.base.sr,
      rem := if s.spi.serial.base.cnt = s.spi.serial.base.data then s.spi.serial.base.rem - 1 else s.spi.serial.base.rem,
      faultUnderflow := s.spi.serial.base.faultUnderflow || decide (s.spi.serial.base.cnt = s.spi.serial.base.data ∧ s.spi.serial.base.rem = 0) } } } }

/-- R223 (D42) with the counter of R121 (D4). -/
def Obligations.SpiCsnHiResult : Prop :=
  ∀ s : State, exec .spiCsnHi s = .next { s with spi := { s.spi with
    state := if s.spi.serial.base.cnt = s.spi.serial.base.endCycle then .wait else s.spi.state,
    csn := if s.spi.serial.base.cnt = s.spi.serial.base.data then true else s.spi.csn,
    serial := { s.spi.serial with
      clk := if s.spi.serial.base.cnt = s.spi.serial.base.clkHigh then true else s.spi.serial.clk,
      base := { s.spi.serial.base with
      cnt := if s.spi.serial.base.cnt = s.spi.serial.base.endCycle then 0 else (s.spi.serial.base.cnt + 1) % 2 ^ s.spi.par.cycleBits } } } }

/-- R245, R75 and R103 (D19, D22). The read data is held in the model's own field port.rdata (log 6). -/
def Obligations.I2cReadResults : Prop :=
  ∀ s : State,
    exec (.cfgI2cEndCycle .read) s =
      .next { s with i2c := { s.i2c with port := { s.i2c.port with rdata := some s.i2c.base.endCycle } } } ∧
    exec (.cfgI2cClkHigh .read) s =
      .next { s with i2c := { s.i2c with port := { s.i2c.port with rdata := some s.i2c.base.clkHigh } } } ∧
    exec (.cfgI2cData .read) s =
      .next { s with i2c := { s.i2c with port := { s.i2c.port with rdata := some s.i2c.base.data } } } ∧
    exec (.cfgI2cStart .read) s =
      .next { s with i2c := { s.i2c with port := { s.i2c.port with rdata := some s.i2c.start } } } ∧
    exec (.cfgI2cStopLow .read) s =
      .next { s with i2c := { s.i2c with port := { s.i2c.port with rdata := some s.i2c.stopLow } } } ∧
    exec (.cfgI2cStopHigh .read) s =
      .next { s with i2c := { s.i2c with port := { s.i2c.port with rdata := some s.i2c.stopHigh } } } ∧
    exec (.cfgI2cBbEn .read) s =
      .next { s with i2c := { s.i2c with port := { s.i2c.port with rdata := some (if s.i2c.overlay.bbEn = true then 1 else 0) } } } ∧
    exec (.cfgI2cBbOut .read) s =
      .next { s with i2c := { s.i2c with port := { s.i2c.port with rdata := some s.i2c.overlay.bbOut.toNat } } } ∧
    exec (.cfgI2cSdaIn .read) s =
      .next { s with i2c := { s.i2c with port := { s.i2c.port with rdata := some (if s.i2c.overlay.sync2 = true then 1 else 0) } } }

/-- R245, R75 and R103 (D19, D22). The read data is held in the model's own field port.rdata (log 6). -/
def Obligations.SerialReadResults : Prop :=
  ∀ s : State,
    exec (.cfgGenEndCycle .read) s =
      .next { s with gen := { s.gen with port := { s.gen.port with rdata := some s.gen.serial.base.endCycle } } } ∧
    exec (.cfgGenClkHigh .read) s =
      .next { s with gen := { s.gen with port := { s.gen.port with rdata := some s.gen.serial.base.clkHigh } } } ∧
    exec (.cfgGenData .read) s =
      .next { s with gen := { s.gen with port := { s.gen.port with rdata := some s.gen.serial.base.data } } } ∧
    exec (.cfgAttEndCycle .read) s =
      .next { s with att := { s.att with port := { s.att.port with rdata := some s.att.serial.base.endCycle } } } ∧
    exec (.cfgAttClkHigh .read) s =
      .next { s with att := { s.att with port := { s.att.port with rdata := some s.att.serial.base.clkHigh } } } ∧
    exec (.cfgAttData .read) s =
      .next { s with att := { s.att with port := { s.att.port with rdata := some s.att.serial.base.data } } } ∧
    exec (.cfgAttLeHigh .read) s =
      .next { s with att := { s.att with port := { s.att.port with rdata := some s.att.leHigh } } } ∧
    exec (.cfgAttLeLow .read) s =
      .next { s with att := { s.att with port := { s.att.port with rdata := some s.att.leLow } } } ∧
    exec (.cfgSpiEndCycle .read) s =
      .next { s with spi := { s.spi with port := { s.spi.port with rdata := some s.spi.serial.base.endCycle } } } ∧
    exec (.cfgSpiClkHigh .read) s =
      .next { s with spi := { s.spi with port := { s.spi.port with rdata := some s.spi.serial.base.clkHigh } } } ∧
    exec (.cfgSpiData .read) s =
      .next { s with spi := { s.spi with port := { s.spi.port with rdata := some s.spi.serial.base.data } } } ∧
    exec (.cfgSpiBbEn .read) s =
      .next { s with spi := { s.spi with port := { s.spi.port with rdata := some (if s.spi.overlay.bbEn = true then 1 else 0) } } } ∧
    exec (.cfgSpiBbOut .read) s =
      .next { s with spi := { s.spi with port := { s.spi.port with rdata := some s.spi.overlay.bbOut.toNat } } } ∧
    exec (.cfgSpiSdiIn .read) s =
      .next { s with spi := { s.spi with port := { s.spi.port with rdata := some (if s.spi.overlay.sync2 = true then 1 else 0) } } }

/-- R247 with R76, R102 and R106 (D22, D25, D47). -/
def Obligations.I2cWriteResults : Prop :=
  ∀ (s : State) (v : Nat),
    (s.i2c.port.inp.rst = false →
      exec (.cfgI2cEndCycle (.write v)) s =
        .next { s with i2c := { s.i2c with base := { s.i2c.base with endCycle := v % 2 ^ s.i2c.par.cycleBits } } } ∧
      exec (.cfgI2cClkHigh (.write v)) s =
        .next { s with i2c := { s.i2c with base := { s.i2c.base with clkHigh := v % 2 ^ s.i2c.par.cycleBits } } } ∧
      exec (.cfgI2cData (.write v)) s =
        .next { s with i2c := { s.i2c with base := { s.i2c.base with data := v % 2 ^ s.i2c.par.cycleBits } } } ∧
      exec (.cfgI2cStart (.write v)) s =
        .next { s with i2c := { s.i2c with start := v % 2 ^ s.i2c.par.cycleBits } } ∧
      exec (.cfgI2cStopLow (.write v)) s =
        .next { s with i2c := { s.i2c with stopLow := v % 2 ^ s.i2c.par.cycleBits } } ∧
      exec (.cfgI2cStopHigh (.write v)) s =
        .next { s with i2c := { s.i2c with stopHigh := v % 2 ^ s.i2c.par.cycleBits } } ∧
      exec (.cfgI2cBbEn (.write v)) s =
        .next { s with i2c := { s.i2c with overlay := { s.i2c.overlay with bbEn := decide (v % 2 = 1) } } } ∧
      exec (.cfgI2cBbOut (.write v)) s =
        .next { s with i2c := { s.i2c with overlay := { s.i2c.overlay with bbOut := BitVec.ofNat 3 v } } } ∧
      exec (.cfgI2cSdaIn (.write v)) s =
        .next s)

/-- R247 with R76, R102 and R106 (D22, D25, D47). -/
def Obligations.SerialWriteResults : Prop :=
  ∀ (s : State) (v : Nat),
    (s.gen.port.inp.rst = false →
      exec (.cfgGenEndCycle (.write v)) s =
        .next { s with gen := { s.gen with serial := { s.gen.serial with base := { s.gen.serial.base with endCycle := v % 2 ^ s.gen.par.cycleBits } } } } ∧
      exec (.cfgGenClkHigh (.write v)) s =
        .next { s with gen := { s.gen with serial := { s.gen.serial with base := { s.gen.serial.base with clkHigh := v % 2 ^ s.gen.par.cycleBits } } } } ∧
      exec (.cfgGenData (.write v)) s =
        .next { s with gen := { s.gen with serial := { s.gen.serial with base := { s.gen.serial.base with data := v % 2 ^ s.gen.par.cycleBits } } } }) ∧
    (s.att.port.inp.rst = false →
      exec (.cfgAttEndCycle (.write v)) s =
        .next { s with att := { s.att with serial := { s.att.serial with base := { s.att.serial.base with endCycle := v % 2 ^ s.att.par.cycleBits } } } } ∧
      exec (.cfgAttClkHigh (.write v)) s =
        .next { s with att := { s.att with serial := { s.att.serial with base := { s.att.serial.base with clkHigh := v % 2 ^ s.att.par.cycleBits } } } } ∧
      exec (.cfgAttData (.write v)) s =
        .next { s with att := { s.att with serial := { s.att.serial with base := { s.att.serial.base with data := v % 2 ^ s.att.par.cycleBits } } } } ∧
      exec (.cfgAttLeHigh (.write v)) s =
        .next { s with att := { s.att with leHigh := v % 2 ^ s.att.par.cycleBits } } ∧
      exec (.cfgAttLeLow (.write v)) s =
        .next { s with att := { s.att with leLow := v % 2 ^ s.att.par.cycleBits } }) ∧
    (s.spi.port.inp.rst = false →
      exec (.cfgSpiEndCycle (.write v)) s =
        .next { s with spi := { s.spi with serial := { s.spi.serial with base := { s.spi.serial.base with endCycle := v % 2 ^ s.spi.par.cycleBits } } } } ∧
      exec (.cfgSpiClkHigh (.write v)) s =
        .next { s with spi := { s.spi with serial := { s.spi.serial with base := { s.spi.serial.base with clkHigh := v % 2 ^ s.spi.par.cycleBits } } } } ∧
      exec (.cfgSpiData (.write v)) s =
        .next { s with spi := { s.spi with serial := { s.spi.serial with base := { s.spi.serial.base with data := v % 2 ^ s.spi.par.cycleBits } } } } ∧
      exec (.cfgSpiBbEn (.write v)) s =
        .next { s with spi := { s.spi with overlay := { s.spi.overlay with bbEn := decide (v % 2 = 1) } } } ∧
      exec (.cfgSpiBbOut (.write v)) s =
        .next { s with spi := { s.spi with overlay := { s.spi.overlay with bbOut := BitVec.ofNat 3 v } } } ∧
      exec (.cfgSpiSdiIn (.write v)) s =
        .next s)

/-- R247 corner case (b) and R295 corner case (b) (D23). -/
def Obligations.WriteLostInReset : Prop :=
  ∀ (i : Instr) (s : State) (v : Nat), i.access = some (.write v) → (s.port i.row.variant).inp.rst = true →
    exec i s = .next s

/-- The table of R193. The targets are fixed by the variant: no field of State holds one. -/
def Obligations.TransitionTargets : Prop :=
  ∀ s : State,
    (s.gen.port.inp.dataReady = true → ∃ t, exec .genWait s = .next t ∧ t.gen.state = .transfer) ∧
    (s.att.port.inp.dataReady = true → ∃ t, exec .attWait s = .next t ∧ t.att.state = .transfer) ∧
    (s.spi.port.inp.dataReady = true → ∃ t, exec .spiWait s = .next t ∧ t.spi.state = .firstclk) ∧
    (s.gen.serial.base.cnt = s.gen.serial.base.endCycle → s.gen.serial.base.rem = 0 →
      ∃ t, exec .genTransfer s = .next t ∧ t.gen.state = .wait) ∧
    (s.att.serial.base.cnt = s.att.serial.base.endCycle → s.att.serial.base.rem = 0 →
      ∃ t, exec .attTransfer s = .next t ∧ t.att.state = .latch) ∧
    (s.spi.serial.base.cnt = s.spi.serial.base.endCycle → s.spi.serial.base.rem = 0 →
      ∃ t, exec .spiTransfer s = .next t ∧ t.spi.state = .csnHi)

/-- R194's sentence that an extension never changes the base's shift, counter or transition logic; what the base's rules are is
SerialWaitResults and the three TRANSFER results. -/
def Obligations.GenericBaseShared : Prop :=
  ∀ s : State, s.gen.state = .wait → s.att.state = .wait → s.spi.state = .wait →
    s.gen.serial = s.att.serial → s.att.serial = s.spi.serial →
    s.gen.par.toDims = s.att.par.toDims → s.att.par.toDims = s.spi.par.toDims →
    s.gen.port.inp = s.att.port.inp → s.att.port.inp = s.spi.port.inp →
    (∃ g a x, exec .genWait s = .next g ∧ exec .attWait s = .next a ∧ exec .spiWait s = .next x ∧
      g.gen.serial = a.att.serial ∧ a.att.serial = x.spi.serial ∧
      (g.gen.state = .wait ↔ a.att.state = .wait) ∧ (a.att.state = .wait ↔ x.spi.state = .wait)) ∧
    (∃ g a x,
      exec .genTransfer { s with gen := { s.gen with state := .transfer } } = .next g ∧
      exec .attTransfer { s with att := { s.att with state := .transfer } } = .next a ∧
      exec .spiTransfer { s with spi := { s.spi with state := .transfer } } = .next x ∧
      g.gen.serial = a.att.serial ∧ a.att.serial = x.spi.serial ∧
      (g.gen.state = .transfer ↔ a.att.state = .transfer) ∧ (a.att.state = .transfer ↔ x.spi.state = .transfer))

/-- R96, with the widths of the table of R95. The code values are the spec's own choice (D27) and are not stated here. -/
def Obligations.StateCodesUnique : Prop :=
  (∀ a b : I2cState, a.code = b.code → a = b) ∧ (∀ a b : GenState, a.code = b.code → a = b) ∧
  (∀ a b : AttState, a.code = b.code → a = b) ∧ (∀ a b : SpiState, a.code = b.code → a = b) ∧
  (∀ a : I2cState, a.code < 2 ^ 3) ∧ (∀ a : GenState, a.code < 2 ^ 1) ∧ (∀ a : AttState, a.code < 2 ^ 2) ∧
  (∀ a : SpiState, a.code < 2 ^ 2) ∧
  (∀ (s : State) (v : Variant), ∃ i, decodeState v (s.stateCode v) = some i ∧ i.row = .state v (s.stateCode v))

/-- R97, R100 and R110 (D21, D27, D38). -/
def Obligations.ReservedCodesRefused : Prop :=
  ∀ (n : Nat) (a : CfgAccess),
    ((decodeState .i2c n).isSome ↔ n < 5) ∧ ((decodeState .gen n).isSome ↔ n < 2) ∧
    ((decodeState .att n).isSome ↔ n < 3) ∧ ((decodeState .spi n).isSome ↔ n < 4) ∧
    ((decodeCfg .i2c n a).isSome ↔ n < 9) ∧ ((decodeCfg .gen n a).isSome ↔ n < 3) ∧
    ((decodeCfg .att n a).isSome ↔ n < 5) ∧ ((decodeCfg .spi n a).isSome ↔ n < 6)

/-- The codes of R95 and R100 (D21, D27); the context and access bytes are the model's own form (log 7), and so are the eight
value bytes of the write, lowest first, that the seventh clause reads as 271 (log 8). -/
def Obligations.WrittenWordsDecode : Prop :=
  decode [0b011#8, 1#8] = .ok (.i2cAck, []) ∧
  decode [0b1#8, 2#8] = .ok (.genTransfer, []) ∧
  decode [0b10#8, 3#8] = .ok (.attLatch, []) ∧
  decode [0b11#8, 4#8] = .ok (.spiCsnHi, []) ∧
  decode [0b0101#8, 5#8, 0#8] = .ok (.cfgI2cStopHigh .read, []) ∧
  decode [0b0010#8, 6#8, 0#8] = .ok (.cfgGenData .read, []) ∧
  decode [0b0100#8, 7#8, 1#8, 15#8, 1#8, 0#8, 0#8, 0#8, 0#8, 0#8, 0#8] = .ok (.cfgAttLeLow (.write 271), []) ∧
  decode [0b0101#8, 8#8, 0#8] = .ok (.cfgSpiSdiIn .read, [])

/-- Every row of the table with every access operand the byte form carries. The byte form around the table's codes is the model's
own (log 7, log 8). -/
def Obligations.DecodeEncode : Prop :=
  ∀ (i : Instr) (rest : List Byte), i.wellFormed = true → decode (encode i ++ rest) = .ok (i, rest)

/-- R270: no rule stops a tick. That an access to an empty index refuses the step is the model's reading of I15 (log 10). -/
def Obligations.StepCompletes : Prop :=
  ∀ s : State, (s.AccessesNamed → ∃ t, step s = .next t) ∧
    (¬ s.AccessesNamed → step s = .refused .emptyRegisterIndex)

/-- R31 and R255. What the step adds around exec is endPart, and clearRdata for the host's read data (log 6, log 9). -/
def Obligations.StepRunsFetchedState : Prop :=
  ∀ (s t u : State) (i : Instr), step s = .next u →
    (decodeState .i2c (s.stateCode .i2c) = some i → s.i2c.port.inp.rst = false → s.i2c.port.inp.cfgRd = none →
      s.i2c.port.inp.cfgWr = none → exec i (s.clearRdata .i2c) = .next t → u.i2c = (endPart .i2c t).i2c) ∧
    (decodeState .gen (s.stateCode .gen) = some i → s.gen.port.inp.rst = false → s.gen.port.inp.cfgRd = none →
      s.gen.port.inp.cfgWr = none → exec i (s.clearRdata .gen) = .next t → u.gen = (endPart .gen t).gen) ∧
    (decodeState .att (s.stateCode .att) = some i → s.att.port.inp.rst = false → s.att.port.inp.cfgRd = none →
      s.att.port.inp.cfgWr = none → exec i (s.clearRdata .att) = .next t → u.att = (endPart .att t).att) ∧
    (decodeState .spi (s.stateCode .spi) = some i → s.spi.port.inp.rst = false → s.spi.port.inp.cfgRd = none →
      s.spi.port.inp.cfgWr = none → exec i (s.clearRdata .spi) = .next t → u.spi = (endPart .spi t).spi)

/-- R255, for a tick that holds a read, a write, both or neither; R83 and R84, since the read and the state row come before the write. The
order of the three is log 17, the cleared read data log 6, and what the state row includes log 9. -/
def Obligations.StepRunsAccesses : Prop :=
  ∀ (v : Variant) (s s1 s2 s3 : State) (i : Instr),
    (s.port v).inp.rst = false → decodeState v (s.stateCode v) = some i →
    (match (s.port v).inp.cfgRd with
      | none => s1 = s.clearRdata v
      | some r => ∃ j, decodeCfg v r.toNat .read = some j ∧ exec j s = .next s1) →
    exec i s1 = .next s2 →
    (match (s.port v).inp.cfgWr with
      | none => s3 = s2
      | some w => ∃ k, decodeCfg v w.index.toNat (.write w.value) = some k ∧ exec k s2 = .next s3) →
    tickInstance v s = .next (endPart v s3) ∧
    ∀ u, step s = .next u →
      match v with
      | .i2c => u.i2c = (endPart .i2c s3).i2c
      | .gen => u.gen = (endPart .gen s3).gen
      | .att => u.att = (endPart .att s3).att
      | .spi => u.spi = (endPart .spi s3).spi

/-- R82 and R257 (D37): the instances share no state. -/
def Obligations.InstancesIndependent : Prop :=
  ∀ s s' t t' : State, step s = .next t → step s' = .next t' →
    (s.i2c = s'.i2c → t.i2c = t'.i2c) ∧ (s.gen = s'.gen → t.gen = t'.gen) ∧
    (s.att = s'.att → t.att = t'.att) ∧ (s.spi = s'.spi → t.spi = t'.spi)

/-- The widths of R50, for every input of every tick. States outside the invariant are reached by no run (log 16). -/
def Obligations.InRangeKept : Prop :=
  ∀ s t : State, s.InRange → step s = .next t → t.InRange

/-- R121 and R124 (D4, D5), R206 (D11), whatever the host writes in the tick. -/
def Obligations.CounterNext : Prop :=
  ∀ s t : State, step s = .next t →
    (s.i2c.port.inp.rst = false →
      t.i2c.base.cnt = if s.i2c.state = .wait ∨ s.i2c.base.cnt = s.i2c.base.endCycle then 0
        else (s.i2c.base.cnt + 1) % 2 ^ s.i2c.par.cycleBits) ∧
    (s.gen.port.inp.rst = false →
      t.gen.serial.base.cnt = if s.gen.state = .wait ∨ s.gen.serial.base.cnt = s.gen.serial.base.endCycle then 0
        else (s.gen.serial.base.cnt + 1) % 2 ^ s.gen.par.cycleBits) ∧
    (s.att.port.inp.rst = false →
      t.att.serial.base.cnt = if s.att.state = .wait ∨ s.att.serial.base.cnt = s.att.serial.base.endCycle then 0
        else (s.att.serial.base.cnt + 1) % 2 ^ s.att.par.cycleBits) ∧
    (s.spi.port.inp.rst = false →
      t.spi.serial.base.cnt = if s.spi.state = .wait ∨ s.spi.serial.base.cnt = s.spi.serial.base.endCycle then 0
        else (s.spi.serial.base.cnt + 1) % 2 ^ s.spi.par.cycleBits) ∧
    (s.att.port.inp.rst = false →
      t.att.lcnt = if s.att.state = .latch then (s.att.lcnt + 1) % 2 ^ s.att.par.cycleBits else 0)

/-- R123: ev_end is cnt == end_cycle, and in a tick where it is 1 cnt's next value is 0. -/
def Obligations.EndOfCycleZeroesCounter : Prop :=
  ∀ s t : State, step s = .next t →
    ((s.i2c.base.evEnd = true ↔ s.i2c.base.cnt = s.i2c.base.endCycle) ∧
      (s.i2c.base.evEnd = true → t.i2c.base.cnt = 0)) ∧
    ((s.gen.serial.base.evEnd = true ↔ s.gen.serial.base.cnt = s.gen.serial.base.endCycle) ∧
      (s.gen.serial.base.evEnd = true → t.gen.serial.base.cnt = 0)) ∧
    ((s.att.serial.base.evEnd = true ↔ s.att.serial.base.cnt = s.att.serial.base.endCycle) ∧
      (s.att.serial.base.evEnd = true → t.att.serial.base.cnt = 0)) ∧
    ((s.spi.serial.base.evEnd = true ↔ s.spi.serial.base.cnt = s.spi.serial.base.endCycle) ∧
      (s.spi.serial.base.evEnd = true → t.spi.serial.base.cnt = 0))

/-- R128, for every state and input, valid configuration or not. -/
def Obligations.FirstTickOfStateCntZero : Prop :=
  ∀ s t : State, step s = .next t →
    (t.i2c.state ≠ .wait → t.i2c.state ≠ s.i2c.state → t.i2c.base.cnt = 0) ∧
    (t.gen.state ≠ .wait → t.gen.state ≠ s.gen.state → t.gen.serial.base.cnt = 0) ∧
    (t.att.state ≠ .wait → t.att.state ≠ s.att.state → t.att.serial.base.cnt = 0) ∧
    (t.spi.state ≠ .wait → t.spi.state ≠ s.spi.state → t.spi.serial.base.cnt = 0)

/-- R142, R273 and R37 (D16): the tick goes on, and the flag is sticky. -/
def Obligations.FaultFlagNext : Prop :=
  ∀ s t : State, step s = .next t →
    t.i2c.base.faultUnderflow = (s.i2c.base.faultUnderflow ||
      decide (s.i2c.port.inp.rst = false ∧ s.i2c.state = .transfer ∧ s.i2c.base.cnt = s.i2c.base.data ∧ s.i2c.base.rem = 0)) ∧
    t.gen.serial.base.faultUnderflow = (s.gen.serial.base.faultUnderflow ||
      decide (s.gen.port.inp.rst = false ∧ s.gen.state = .transfer ∧ s.gen.serial.base.cnt = s.gen.serial.base.data ∧ s.gen.serial.base.rem = 0)) ∧
    t.att.serial.base.faultUnderflow = (s.att.serial.base.faultUnderflow ||
      decide (s.att.port.inp.rst = false ∧ s.att.state = .transfer ∧ s.att.serial.base.cnt = s.att.serial.base.data ∧ s.att.serial.base.rem = 0)) ∧
    t.spi.serial.base.faultUnderflow = (s.spi.serial.base.faultUnderflow ||
      decide (s.spi.port.inp.rst = false ∧ s.spi.state = .transfer ∧ s.spi.serial.base.cnt = s.spi.serial.base.data ∧ s.spi.serial.base.rem = 0))

/-- R51: only the host write that names the register, or rst, changes it. -/
def Obligations.ConfigKept : Prop :=
  ∀ s t : State, step s = .next t →
    (s.i2c.port.inp.rst = false →
      ((∀ w, s.i2c.port.inp.cfgWr = some w → w.index ≠ 0#4) → t.i2c.base.endCycle = s.i2c.base.endCycle) ∧
      ((∀ w, s.i2c.port.inp.cfgWr = some w → w.index ≠ 1#4) → t.i2c.base.clkHigh = s.i2c.base.clkHigh) ∧
      ((∀ w, s.i2c.port.inp.cfgWr = some w → w.index ≠ 2#4) → t.i2c.base.data = s.i2c.base.data) ∧
      ((∀ w, s.i2c.port.inp.cfgWr = some w → w.index ≠ 3#4) → t.i2c.start = s.i2c.start) ∧
      ((∀ w, s.i2c.port.inp.cfgWr = some w → w.index ≠ 4#4) → t.i2c.stopLow = s.i2c.stopLow) ∧
      ((∀ w, s.i2c.port.inp.cfgWr = some w → w.index ≠ 5#4) → t.i2c.stopHigh = s.i2c.stopHigh) ∧
      ((∀ w, s.i2c.port.inp.cfgWr = some w → w.index ≠ 6#4) → t.i2c.overlay.bbEn = s.i2c.overlay.bbEn) ∧
      ((∀ w, s.i2c.port.inp.cfgWr = some w → w.index ≠ 7#4) → t.i2c.overlay.bbOut = s.i2c.overlay.bbOut)) ∧
    (s.gen.port.inp.rst = false →
      ((∀ w, s.gen.port.inp.cfgWr = some w → w.index ≠ 0#4) → t.gen.serial.base.endCycle = s.gen.serial.base.endCycle) ∧
      ((∀ w, s.gen.port.inp.cfgWr = some w → w.index ≠ 1#4) → t.gen.serial.base.clkHigh = s.gen.serial.base.clkHigh) ∧
      ((∀ w, s.gen.port.inp.cfgWr = some w → w.index ≠ 2#4) → t.gen.serial.base.data = s.gen.serial.base.data)) ∧
    (s.att.port.inp.rst = false →
      ((∀ w, s.att.port.inp.cfgWr = some w → w.index ≠ 0#4) → t.att.serial.base.endCycle = s.att.serial.base.endCycle) ∧
      ((∀ w, s.att.port.inp.cfgWr = some w → w.index ≠ 1#4) → t.att.serial.base.clkHigh = s.att.serial.base.clkHigh) ∧
      ((∀ w, s.att.port.inp.cfgWr = some w → w.index ≠ 2#4) → t.att.serial.base.data = s.att.serial.base.data) ∧
      ((∀ w, s.att.port.inp.cfgWr = some w → w.index ≠ 3#4) → t.att.leHigh = s.att.leHigh) ∧
      ((∀ w, s.att.port.inp.cfgWr = some w → w.index ≠ 4#4) → t.att.leLow = s.att.leLow)) ∧
    (s.spi.port.inp.rst = false →
      ((∀ w, s.spi.port.inp.cfgWr = some w → w.index ≠ 0#4) → t.spi.serial.base.endCycle = s.spi.serial.base.endCycle) ∧
      ((∀ w, s.spi.port.inp.cfgWr = some w → w.index ≠ 1#4) → t.spi.serial.base.clkHigh = s.spi.serial.base.clkHigh) ∧
      ((∀ w, s.spi.port.inp.cfgWr = some w → w.index ≠ 2#4) → t.spi.serial.base.data = s.spi.serial.base.data) ∧
      ((∀ w, s.spi.port.inp.cfgWr = some w → w.index ≠ 3#4) → t.spi.overlay.bbEn = s.spi.overlay.bbEn) ∧
      ((∀ w, s.spi.port.inp.cfgWr = some w → w.index ≠ 4#4) → t.spi.overlay.bbOut = s.spi.overlay.bbOut))

/-- R83, R77 and R247 (D22), in any state of the encoder and beside any other input. That the tick itself uses the old value is
CounterNext and the state-row results. -/
def Obligations.ConfigWrittenNextTick : Prop :=
  ∀ (s t : State) (w : CfgWrite), step s = .next t →
    (s.i2c.port.inp.rst = false → s.i2c.port.inp.cfgWr = some w →
      (w.index = 0#4 → t.i2c.base.endCycle = w.value % 2 ^ s.i2c.par.cycleBits) ∧
      (w.index = 1#4 → t.i2c.base.clkHigh = w.value % 2 ^ s.i2c.par.cycleBits) ∧
      (w.index = 2#4 → t.i2c.base.data = w.value % 2 ^ s.i2c.par.cycleBits) ∧
      (w.index = 3#4 → t.i2c.start = w.value % 2 ^ s.i2c.par.cycleBits) ∧
      (w.index = 4#4 → t.i2c.stopLow = w.value % 2 ^ s.i2c.par.cycleBits) ∧
      (w.index = 5#4 → t.i2c.stopHigh = w.value % 2 ^ s.i2c.par.cycleBits) ∧
      (w.index = 6#4 → t.i2c.overlay.bbEn = decide (w.value % 2 = 1)) ∧
      (w.index = 7#4 → t.i2c.overlay.bbOut = BitVec.ofNat 3 w.value)) ∧
    (s.gen.port.inp.rst = false → s.gen.port.inp.cfgWr = some w →
      (w.index = 0#4 → t.gen.serial.base.endCycle = w.value % 2 ^ s.gen.par.cycleBits) ∧
      (w.index = 1#4 → t.gen.serial.base.clkHigh = w.value % 2 ^ s.gen.par.cycleBits) ∧
      (w.index = 2#4 → t.gen.serial.base.data = w.value % 2 ^ s.gen.par.cycleBits)) ∧
    (s.att.port.inp.rst = false → s.att.port.inp.cfgWr = some w →
      (w.index = 0#4 → t.att.serial.base.endCycle = w.value % 2 ^ s.att.par.cycleBits) ∧
      (w.index = 1#4 → t.att.serial.base.clkHigh = w.value % 2 ^ s.att.par.cycleBits) ∧
      (w.index = 2#4 → t.att.serial.base.data = w.value % 2 ^ s.att.par.cycleBits) ∧
      (w.index = 3#4 → t.att.leHigh = w.value % 2 ^ s.att.par.cycleBits) ∧
      (w.index = 4#4 → t.att.leLow = w.value % 2 ^ s.att.par.cycleBits)) ∧
    (s.spi.port.inp.rst = false → s.spi.port.inp.cfgWr = some w →
      (w.index = 0#4 → t.spi.serial.base.endCycle = w.value % 2 ^ s.spi.par.cycleBits) ∧
      (w.index = 1#4 → t.spi.serial.base.clkHigh = w.value % 2 ^ s.spi.par.cycleBits) ∧
      (w.index = 2#4 → t.spi.serial.base.data = w.value % 2 ^ s.spi.par.cycleBits) ∧
      (w.index = 3#4 → t.spi.overlay.bbEn = decide (w.value % 2 = 1)) ∧
      (w.index = 4#4 → t.spi.overlay.bbOut = BitVec.ofNat 3 w.value))

/-- R295 (D23); the values are those of PowerUpValues. The host's side (port) is no register of the core. -/
def Obligations.ResetTick : Prop :=
  ∀ s t : State, step s = .next t →
    (s.i2c.port.inp.rst = true → t.i2c = { I2c.powerUp s.i2c.par with
      base := { (I2c.powerUp s.i2c.par).base with faultUnderflow := s.i2c.base.faultUnderflow },
      overlay := { (I2c.powerUp s.i2c.par).overlay with
        sync1 := s.i2c.port.inp.pin, sync2 := s.i2c.overlay.sync1 },
      port := t.i2c.port }) ∧
    (s.gen.port.inp.rst = true → t.gen = { Gen.powerUp s.gen.par with
      serial := { (Gen.powerUp s.gen.par).serial with base := { (Gen.powerUp s.gen.par).serial.base with
        faultUnderflow := s.gen.serial.base.faultUnderflow } },
      port := t.gen.port }) ∧
    (s.att.port.inp.rst = true → t.att = { Att.powerUp s.att.par with
      serial := { (Att.powerUp s.att.par).serial with base := { (Att.powerUp s.att.par).serial.base with
        faultUnderflow := s.att.serial.base.faultUnderflow } },
      port := t.att.port }) ∧
    (s.spi.port.inp.rst = true → t.spi = { Spi.powerUp s.spi.par with
      serial := { (Spi.powerUp s.spi.par).serial with base := { (Spi.powerUp s.spi.par).serial.base with
        faultUnderflow := s.spi.serial.base.faultUnderflow } },
      overlay := { (Spi.powerUp s.spi.par).overlay with
        sync1 := s.spi.port.inp.pin, sync2 := s.spi.overlay.sync1 },
      port := t.spi.port })

/-- R252 corner cases (a) and (c) (D20). -/
def Obligations.SynchronizerLatency : Prop :=
  ∀ s t u : State, step s = .next t → step t = .next u →
    u.i2c.overlay.sync2 = s.i2c.port.inp.pin ∧ u.spi.overlay.sync2 = s.spi.port.inp.pin

/-- R84 and R245 corner cases (a) and (c) (D22). R245 makes the read data an output of the tick; that it stands after the step in
the field port.rdata is the model's own choice (log 6). -/
def Obligations.ReadSeesOldValue : Prop :=
  ∀ (v : Variant) (s t t1 : State) (r : RegIndex) (j : Instr), step s = .next t →
    (s.port v).inp.cfgRd = some r → decodeCfg v r.toNat .read = some j → exec j s = .next t1 →
    (t.port v).rdata = (t1.port v).rdata ∧ (t1.port v).rdata.isSome = true

/-- R249 corner case (b) and R88 (D28). -/
def Obligations.BusyRequestIgnored : Prop :=
  ∀ (v : Variant) (s : State) (dr : Bool) (p : Nat), s.busy v = true →
    step (s.withPort v { s.port v with inp := { (s.port v).inp with dataReady := dr, payload := p } }) = step s

/-- R253. The read data is the model's field port.rdata (log 6). What a read of the read-back register returns is I2cReadResults,
SerialReadResults and ReadSeesOldValue. -/
def Obligations.InputLineOnlySynchronized : Prop :=
  ∀ (s t u : State) (b c1 c2 d e1 e2 : Bool), step s = .next t →
    (step { s with
        i2c := { s.i2c with port := { s.i2c.port with inp := { s.i2c.port.inp with pin := b } } },
        spi := { s.spi with port := { s.spi.port with inp := { s.spi.port.inp with pin := d } } } } = .next u →
      u = { t with i2c := { t.i2c with overlay := { t.i2c.overlay with sync1 := b } },
                   spi := { t.spi with overlay := { t.spi.overlay with sync1 := d } } }) ∧
    (step { s with
        i2c := { s.i2c with overlay := { s.i2c.overlay with sync1 := c1, sync2 := c2 } },
        spi := { s.spi with overlay := { s.spi.overlay with sync1 := e1, sync2 := e2 } } } = .next u →
      u = { t with i2c := { t.i2c with overlay := { t.i2c.overlay with sync2 := c1 },
                                       port := { t.i2c.port with rdata := if s.i2c.port.inp.cfgRd = some 8#4
                                         then u.i2c.port.rdata else t.i2c.port.rdata } },
                   spi := { t.spi with overlay := { t.spi.overlay with sync2 := e1 },
                                       port := { t.spi.port with rdata := if s.spi.port.inp.cfgRd = some 5#4
                                         then u.spi.port.rdata else t.spi.port.rdata } } })

/-- R166, R227 and R280 (D18). -/
def Obligations.BitBangInvisible : Prop :=
  ∀ (s t u : State) (e1 e2 : Bool) (o1 o2 : BitVec 3), step s = .next t →
    step { s with
      i2c := { s.i2c with overlay := { s.i2c.overlay with bbEn := e1, bbOut := o1 } },
      spi := { s.spi with overlay := { s.spi.overlay with bbEn := e2, bbOut := o2 } } } = .next u →
    u = { t with i2c := { t.i2c with overlay := { t.i2c.overlay with
                                       bbEn := u.i2c.overlay.bbEn, bbOut := u.i2c.overlay.bbOut },
                                     port := { t.i2c.port with rdata :=
                                       if s.i2c.port.inp.cfgRd = some 6#4 ∨ s.i2c.port.inp.cfgRd = some 7#4
                                       then u.i2c.port.rdata else t.i2c.port.rdata } },
                 spi := { t.spi with overlay := { t.spi.overlay with
                                       bbEn := u.spi.overlay.bbEn, bbOut := u.spi.overlay.bbOut },
                                     port := { t.spi.port with rdata :=
                                       if s.spi.port.inp.cfgRd = some 3#4 ∨ s.spi.port.inp.cfgRd = some 4#4
                                       then u.spi.port.rdata else t.spi.port.rdata } } }

/-- R155 and R190 (D45). -/
def Obligations.LinesHeldInWait : Prop :=
  ∀ s t : State, step s = .next t →
    (s.i2c.state = .wait → s.i2c.port.inp.rst = false → t.i2c.scl = s.i2c.scl ∧ t.i2c.sdaO = s.i2c.sdaO) ∧
    (s.gen.state = .wait → s.gen.port.inp.rst = false →
      t.gen.serial.clk = s.gen.serial.clk ∧ t.gen.serial.sdo = s.gen.serial.sdo) ∧
    (s.att.state = .wait → s.att.port.inp.rst = false →
      t.att.serial.clk = s.att.serial.clk ∧ t.att.serial.sdo = s.att.serial.sdo ∧ t.att.le = s.att.le) ∧
    (s.spi.state = .wait → s.spi.port.inp.rst = false →
      t.spi.serial.clk = s.spi.serial.clk ∧ t.spi.serial.sdo = s.spi.serial.sdo ∧ t.spi.csn = s.spi.csn)

/-- R225, for any configured timing. -/
def Obligations.ChipSelectAlignment : Prop :=
  ∀ s t : State, step s = .next t → t.spi.csn ≠ s.spi.csn →
    (s.spi.port.inp.rst = false ∧ s.spi.serial.base.evData = true ∧
      (s.spi.state = .transfer ∧ t.spi.csn = false ∨ s.spi.state = .csnHi ∧ t.spi.csn = true)) ∨
    (s.spi.port.inp.rst = true ∧ t.spi.csn = true)

/-- R144 and R79, of the shifter's operations themselves. That a payload is taken modulo 2^width is log 11. -/
def Obligations.ShiftOrder : Prop :=
  ∀ (b : Base) (width payload k : Nat), k ≤ width →
    (Base.shift^[k] (b.load width payload)).rem = width - k ∧
    (Base.shift^[k] (b.load width payload)).sr = (payload % 2 ^ width) / 2 ^ k ∧
    (Base.shift^[k] (b.load width payload)).faultUnderflow = b.faultUnderflow ∧
    (k < width → (Base.shift^[k] (b.load width payload)).shiftBit = payload.testBit k)

/-- R93 with the multiplexers of R166 and R227, the bit order of R104 and R105 (D17, the spec's own choice), sda_oe by R163 (D14) and
the pads of R195 and R211. -/
def Obligations.PadOwnership : Prop :=
  ∀ s : State,
    (s.i2c.overlay.bbEn = false →
      s.i2c.pads = { scl := s.i2c.scl, sdaO := s.i2c.sdaO, sdaOe := decide (s.i2c.state ≠ .ack) }) ∧
    (s.i2c.overlay.bbEn = true →
      s.i2c.pads = { scl := s.i2c.overlay.bbOut.getLsbD 0, sdaO := s.i2c.overlay.bbOut.getLsbD 1,
                     sdaOe := s.i2c.overlay.bbOut.getLsbD 2 }) ∧
    (s.spi.overlay.bbEn = false →
      s.spi.pads = { clk := s.spi.serial.clk, sdo := s.spi.serial.sdo, csn := s.spi.csn }) ∧
    (s.spi.overlay.bbEn = true →
      s.spi.pads = { clk := s.spi.overlay.bbOut.getLsbD 0, sdo := s.spi.overlay.bbOut.getLsbD 1,
                     csn := s.spi.overlay.bbOut.getLsbD 2 }) ∧
    s.gen.pads = { clk := s.gen.serial.clk, sdo := s.gen.serial.sdo } ∧
    s.att.pads = { clk := s.att.serial.clk, sdo := s.att.serial.sdo, le := s.att.le }

/-- R168 to R170 as an invariant every step keeps, for every width, timing and input. -/
def Obligations.I2cWaveform : Prop :=
  ∀ s t : State, s.i2c.InRange → s.i2c.Phase →
    (s.i2c.state ≠ .wait → s.i2c.WellTimed ∧ s.i2c.port.inp.ConfigHeld .i2c) → step s = .next t →
    t.i2c.Phase ∧
    (s.i2c.port.inp.rst = false → s.i2c.scl = true → t.i2c.scl = true → t.i2c.sdaO ≠ s.i2c.sdaO →
      (s.i2c.state = .start ∧ s.i2c.base.cnt = s.i2c.start ∧ s.i2c.sdaO = true ∧ t.i2c.sdaO = false) ∨
      (s.i2c.state = .stop ∧ s.i2c.base.cnt = s.i2c.stopHigh ∧ s.i2c.sdaO = false ∧ t.i2c.sdaO = true))

/-- R197 as an invariant every step keeps. -/
def Obligations.GenBitCells : Prop :=
  ∀ s t : State, s.gen.InRange → s.gen.Phase →
    (s.gen.state ≠ .wait → s.gen.serial.WellTimed ∧ s.gen.port.inp.ConfigHeld .gen) → step s = .next t →
    t.gen.Phase ∧
    (s.gen.port.inp.rst = false → t.gen.serial.sdo ≠ s.gen.serial.sdo →
      s.gen.serial.clk = false ∧ t.gen.serial.clk = false)

/-- R213 and R197 as an invariant every step keeps. -/
def Obligations.AttLatchPulse : Prop :=
  ∀ s t : State, s.att.InRange → s.att.Phase →
    (s.att.state ≠ .wait →
      s.att.serial.ValidTiming ∧ s.att.leHigh < s.att.leLow ∧ s.att.port.inp.ConfigHeld .att) →
    step s = .next t → t.att.Phase

/-- R230 with R221 and R223 as an invariant every step keeps. -/
def Obligations.SpiWaveform : Prop :=
  ∀ s t : State, s.spi.InRange → s.spi.Phase →
    (s.spi.state ≠ .wait → s.spi.serial.WellTimed ∧ s.spi.port.inp.ConfigHeld .spi) → step s = .next t →
    t.spi.Phase ∧
    (s.spi.port.inp.rst = false → t.spi.serial.sdo ≠ s.spi.serial.sdo ∨ t.spi.csn ≠ s.spi.csn →
      s.spi.serial.clk = false ∧ t.spi.serial.clk = false)

/-- R198, with R144, R305 and R315. f 0 is the accepting tick; the timing is that of tick 1 (R300). -/
def Obligations.GenTransaction : Prop :=
  ∀ (f : Nat → State) (E W B : Nat), (f 0).gen.InRange → (f 0).gen.state = .wait →
    (f 0).gen.port.inp.dataReady = true → W = (f 0).gen.par.width → E = (f 1).gen.serial.base.endCycle →
    (f 1).gen.serial.ValidTiming → B = (E + 1) * W → IsRun f (B + 1) →
    (∀ k ≤ B, (f k).gen.port.inp.NoReset) → (∀ k, 1 ≤ k → k ≤ B → (f k).gen.port.inp.ConfigHeld .gen) →
    (∀ j < W, (f (2 + j * (E + 1) + (f 1).gen.serial.base.data)).gen.serial.sdo =
      (f 0).gen.port.inp.payload.testBit j) ∧
    (∀ k, 1 ≤ k → k ≤ B → (f k).gen.busy = true) ∧ (f (B + 1)).gen.busy = false ∧
    (f (B + 1)).gen.serial.base.faultUnderflow = (f 0).gen.serial.base.faultUnderflow

/-- R171 and R172 with R305, and the byte order of R80. f 0 is the accepting tick; the timing is that of tick 1 (R300). Cycle c of the
transaction holds the ticks 1 + c·(E+1) to (c+1)·(E+1). -/
def Obligations.I2cTransaction : Prop :=
  ∀ (f : Nat → State) (E W B : Nat), (f 0).i2c.InRange → (f 0).i2c.state = .wait →
    (f 0).i2c.port.inp.dataReady = true → W = (f 0).i2c.par.width → E = (f 1).i2c.base.endCycle → W % 8 = 0 →
    (f 1).i2c.ValidTiming → B = (E + 1) * (W + W / 8 + 2) → IsRun f (B + 1) →
    (∀ k ≤ B, (f k).i2c.port.inp.NoReset) → (∀ k, 1 ≤ k → k ≤ B → (f k).i2c.port.inp.ConfigHeld .i2c) →
    (∀ k, 1 ≤ k → k ≤ B → (f k).i2c.state =
      if (k - 1) / (E + 1) = 0 then .start
      else if (k - 1) / (E + 1) = W + W / 8 + 1 then .stop
      else if ((k - 1) / (E + 1) - 1) % 9 = 8 then .ack
      else .transfer) ∧
    (∀ j < W, (f (2 + (1 + j + j / 8) * (E + 1) + (f 1).i2c.base.data)).i2c.sdaO =
      (f 0).i2c.port.inp.payload.testBit j) ∧
    (∀ k, 1 ≤ k → k ≤ B → (f k).i2c.busy = true) ∧ (f (B + 1)).i2c.busy = false ∧
    (f (B + 1)).i2c.base.faultUnderflow = (f 0).i2c.base.faultUnderflow

/-- R209 and R214 with R305, and the bit order of R79 and R144. f 0 is the accepting tick; the timing is that of tick 1 (R300). -/
def Obligations.AttTransaction : Prop :=
  ∀ (f : Nat → State) (E W B L : Nat), (f 0).att.InRange → (f 0).att.state = .wait →
    (f 0).att.port.inp.dataReady = true → W = (f 0).att.par.width → E = (f 1).att.serial.base.endCycle → L = (f 1).att.leLow →
    (f 1).att.serial.ValidTiming → B = (E + 1) * W + L + 1 → IsRun f (B + 1) →
    (∀ k ≤ B, (f k).att.port.inp.NoReset) → (∀ k, 1 ≤ k → k ≤ B → (f k).att.port.inp.ConfigHeld .att) →
    (∀ k, 1 ≤ k → k ≤ (E + 1) * W → (f k).att.state = .transfer) ∧
    (∀ k ≤ L, (f ((E + 1) * W + 1 + k)).att.state = .latch ∧ (f ((E + 1) * W + 1 + k)).att.lcnt = k) ∧
    (∀ j < W, (f (2 + j * (E + 1) + (f 1).att.serial.base.data)).att.serial.sdo =
      (f 0).att.port.inp.payload.testBit j) ∧
    (∀ k, 1 ≤ k → k ≤ B → (f k).att.busy = true) ∧ (f (B + 1)).att.busy = false ∧
    (f (B + 1)).att.serial.base.faultUnderflow = (f 0).att.serial.base.faultUnderflow

/-- R220 and R231 with R305, and the bit order of R79 and R144. f 0 is the accepting tick; the timing is that of tick 1 (R300). -/
def Obligations.SpiTransaction : Prop :=
  ∀ (f : Nat → State) (E W B : Nat), (f 0).spi.InRange → (f 0).spi.state = .wait →
    (f 0).spi.port.inp.dataReady = true → W = (f 0).spi.par.width → E = (f 1).spi.serial.base.endCycle →
    (f 1).spi.serial.ValidTiming → B = (E + 1) * (W + 2) → IsRun f (B + 1) →
    (∀ k ≤ B, (f k).spi.port.inp.NoReset) → (∀ k, 1 ≤ k → k ≤ B → (f k).spi.port.inp.ConfigHeld .spi) →
    (∀ k, 1 ≤ k → k ≤ B → (f k).spi.state =
      if (k - 1) / (E + 1) = 0 then .firstclk else if (k - 1) / (E + 1) = W + 1 then .csnHi else .transfer) ∧
    (∀ j < W, (f (2 + (j + 1) * (E + 1) + (f 1).spi.serial.base.data)).spi.serial.sdo =
      (f 0).spi.port.inp.payload.testBit j) ∧
    (∀ k, 1 ≤ k → k ≤ B → (f k).spi.busy = true) ∧ (f (B + 1)).spi.busy = false ∧
    (f (B + 1)).spi.serial.base.faultUnderflow = (f 0).spi.serial.base.faultUnderflow

/-- R286 with R191 corner case (b), for the three variants of the generic base, and R158 corner case (c): a hang, no fault. -/
def Obligations.UnreachableDataHangs : Prop :=
  ∀ s t : State, step s = .next t →
    (s.gen.InRange → s.gen.state = .transfer → s.gen.serial.base.endCycle < s.gen.serial.base.data →
      s.gen.serial.base.cnt ≤ s.gen.serial.base.endCycle → s.gen.serial.base.rem ≠ 0 →
      s.gen.port.inp.NoReset → s.gen.port.inp.ConfigHeld .gen →
      t.gen.InRange ∧ t.gen.state = .transfer ∧ t.gen.serial.base.endCycle < t.gen.serial.base.data ∧
      t.gen.serial.base.cnt ≤ t.gen.serial.base.endCycle ∧ t.gen.serial.base.rem = s.gen.serial.base.rem ∧ t.gen.serial.base.sr = s.gen.serial.base.sr) ∧
    (s.att.InRange → s.att.state = .transfer → s.att.serial.base.endCycle < s.att.serial.base.data →
      s.att.serial.base.cnt ≤ s.att.serial.base.endCycle → s.att.serial.base.rem ≠ 0 →
      s.att.port.inp.NoReset → s.att.port.inp.ConfigHeld .att →
      t.att.InRange ∧ t.att.state = .transfer ∧ t.att.serial.base.endCycle < t.att.serial.base.data ∧
      t.att.serial.base.cnt ≤ t.att.serial.base.endCycle ∧ t.att.serial.base.rem = s.att.serial.base.rem ∧ t.att.serial.base.sr = s.att.serial.base.sr) ∧
    (s.spi.InRange → s.spi.state = .transfer → s.spi.serial.base.endCycle < s.spi.serial.base.data →
      s.spi.serial.base.cnt ≤ s.spi.serial.base.endCycle → s.spi.serial.base.rem ≠ 0 →
      s.spi.port.inp.NoReset → s.spi.port.inp.ConfigHeld .spi →
      t.spi.InRange ∧ t.spi.state = .transfer ∧ t.spi.serial.base.endCycle < t.spi.serial.base.data ∧
      t.spi.serial.base.cnt ≤ t.spi.serial.base.endCycle ∧ t.spi.serial.base.rem = s.spi.serial.base.rem ∧ t.spi.serial.base.sr = s.spi.serial.base.sr) ∧
    (s.i2c.InRange → s.i2c.state = .transfer ∨ s.i2c.state = .ack → s.i2c.base.endCycle < s.i2c.base.data →
      s.i2c.base.cnt ≤ s.i2c.base.endCycle → s.i2c.base.rem ≠ 0 →
      s.i2c.port.inp.NoReset → s.i2c.port.inp.ConfigHeld .i2c →
      t.i2c.InRange ∧ (t.i2c.state = .transfer ∨ t.i2c.state = .ack) ∧ t.i2c.base.endCycle < t.i2c.base.data ∧
      t.i2c.base.cnt ≤ t.i2c.base.endCycle ∧ t.i2c.base.rem = s.i2c.base.rem ∧ t.i2c.base.sr = s.i2c.base.sr)

/-- R72 and R73 (D21); cfg_map is an argument (log 13). -/
def Obligations.BusAddressNamesRegister : Prop :=
  ∀ (m : Config.CfgMap) (a : CfgAccess), m.Injective →
    (∀ e ∈ m, busInstr m e.address a = decodeCfg e.variant e.index.toNat a) ∧
    (∀ x, (∀ e ∈ m, e.address ≠ x) → busInstr m x a = none)

/-- R111 to R113 (D32). That tick 0, wait_idle while not busy and line are worked off before the tick of the next statement, and what an
ended script presents, is log 21; that rst leaves the line level as it was is a choice of the model (log 22). -/
def Obligations.HostScriptStatements : Prop :=
  ∀ (busy line b : Bool) (r : RegIndex) (v p n : Nat) (k : List Stmt),
    present busy line (.write r v :: k) =
      ({ TickInput.quiet line with cfgWr := some { index := r, value := v } }, line, k) ∧
    present busy line (.read r :: k) = ({ TickInput.quiet line with cfgRd := some r }, line, k) ∧
    present true line (.submit p :: k) =
      ({ TickInput.quiet line with dataReady := true, payload := p }, line, .submit p :: k) ∧
    present false line (.submit p :: k) =
      ({ TickInput.quiet line with dataReady := true, payload := p }, line, k) ∧
    present busy line (.tick (n + 1) :: k) = (TickInput.quiet line, line, .tick n :: k) ∧
    present busy line (.tick 0 :: k) = present busy line k ∧
    present true line (.waitIdle :: k) = (TickInput.quiet line, line, .waitIdle :: k) ∧
    present false line (.waitIdle :: k) = present false line k ∧
    present busy line (.line b :: k) = present busy b k ∧
    present busy line (.rst :: k) = ({ TickInput.quiet line with rst := true }, line, k) ∧
    present busy line [] = (TickInput.quiet line, line, [])

/-- R249, R250 and R87 (D28). The width of the payload port is log 11. -/
def Obligations.RequestAccepted : Prop :=
  ∀ s t : State, step s = .next t →
    (s.accepted .i2c = true → t.busy .i2c = true ∧ t.i2c.base.cnt = 0 ∧
      t.i2c.base.sr = s.i2c.port.inp.payload % 2 ^ s.i2c.par.width ∧ t.i2c.base.rem = s.i2c.par.width) ∧
    (s.idle .i2c = true → s.i2c.port.inp.dataReady = false → t.idle .i2c = true) ∧
    (s.accepted .gen = true → t.busy .gen = true ∧ t.gen.serial.base.cnt = 0 ∧
      t.gen.serial.base.sr = s.gen.port.inp.payload % 2 ^ s.gen.par.width ∧ t.gen.serial.base.rem = s.gen.par.width) ∧
    (s.idle .gen = true → s.gen.port.inp.dataReady = false → t.idle .gen = true) ∧
    (s.accepted .att = true → t.busy .att = true ∧ t.att.serial.base.cnt = 0 ∧
      t.att.serial.base.sr = s.att.port.inp.payload % 2 ^ s.att.par.width ∧ t.att.serial.base.rem = s.att.par.width) ∧
    (s.idle .att = true → s.att.port.inp.dataReady = false → t.idle .att = true) ∧
    (s.accepted .spi = true → t.busy .spi = true ∧ t.spi.serial.base.cnt = 0 ∧
      t.spi.serial.base.sr = s.spi.port.inp.payload % 2 ^ s.spi.par.width ∧ t.spi.serial.base.rem = s.spi.par.width) ∧
    (s.idle .spi = true → s.spi.port.inp.dataReady = false → t.idle .spi = true)

/-- R83: the new value is seen from the next tick. What the written register holds then is ConfigWrittenNextTick; that the others keep
their values is ConfigKept. -/
def Obligations.WriteUnseenInItsTick : Prop :=
  ∀ s t u : State, step s = .next t →
    step {
      i2c := { s.i2c with port := { s.i2c.port with inp := { s.i2c.port.inp with cfgWr := none } } },
      gen := { s.gen with port := { s.gen.port with inp := { s.gen.port.inp with cfgWr := none } } },
      att := { s.att with port := { s.att.port with inp := { s.att.port.inp with cfgWr := none } } },
      spi := { s.spi with port := { s.spi.port with inp := { s.spi.port.inp with cfgWr := none } } } } = .next u →
    t.i2c = { u.i2c with
        base := { u.i2c.base with endCycle := t.i2c.base.endCycle, clkHigh := t.i2c.base.clkHigh, data := t.i2c.base.data },
        start := t.i2c.start, stopLow := t.i2c.stopLow, stopHigh := t.i2c.stopHigh,
        overlay := { u.i2c.overlay with bbEn := t.i2c.overlay.bbEn, bbOut := t.i2c.overlay.bbOut } } ∧
    t.gen = { u.gen with
        serial := { u.gen.serial with base := { u.gen.serial.base with
          endCycle := t.gen.serial.base.endCycle, clkHigh := t.gen.serial.base.clkHigh, data := t.gen.serial.base.data } } } ∧
    t.att = { u.att with
        serial := { u.att.serial with base := { u.att.serial.base with
          endCycle := t.att.serial.base.endCycle, clkHigh := t.att.serial.base.clkHigh, data := t.att.serial.base.data } },
        leHigh := t.att.leHigh, leLow := t.att.leLow } ∧
    t.spi = { u.spi with
        serial := { u.spi.serial with base := { u.spi.serial.base with
          endCycle := t.spi.serial.base.endCycle, clkHigh := t.spi.serial.base.clkHigh, data := t.spi.serial.base.data } },
        overlay := { u.spi.overlay with bbEn := t.spi.overlay.bbEn, bbOut := t.spi.overlay.bbOut } }

end Statements
end

