-- ==== Sys2Proof/Laws/State.lean ====
section
/-! SUPPORT. Laws/State.lean: what each named update does to each field, so that no proof unfolds a record update. -/

namespace Sys2Proof.Machine

@[simp] theorem State.withI2c_i2c (s : State) (m : I2c) : (s.withI2c m).i2c = m := rfl
@[simp] theorem State.withI2c_gen (s : State) (m : I2c) : (s.withI2c m).gen = s.gen := rfl
@[simp] theorem State.withI2c_att (s : State) (m : I2c) : (s.withI2c m).att = s.att := rfl
@[simp] theorem State.withI2c_spi (s : State) (m : I2c) : (s.withI2c m).spi = s.spi := rfl

@[simp] theorem State.withGen_i2c (s : State) (m : Gen) : (s.withGen m).i2c = s.i2c := rfl
@[simp] theorem State.withGen_gen (s : State) (m : Gen) : (s.withGen m).gen = m := rfl
@[simp] theorem State.withGen_att (s : State) (m : Gen) : (s.withGen m).att = s.att := rfl
@[simp] theorem State.withGen_spi (s : State) (m : Gen) : (s.withGen m).spi = s.spi := rfl

@[simp] theorem State.withAtt_i2c (s : State) (m : Att) : (s.withAtt m).i2c = s.i2c := rfl
@[simp] theorem State.withAtt_gen (s : State) (m : Att) : (s.withAtt m).gen = s.gen := rfl
@[simp] theorem State.withAtt_att (s : State) (m : Att) : (s.withAtt m).att = m := rfl
@[simp] theorem State.withAtt_spi (s : State) (m : Att) : (s.withAtt m).spi = s.spi := rfl

@[simp] theorem State.withSpi_i2c (s : State) (m : Spi) : (s.withSpi m).i2c = s.i2c := rfl
@[simp] theorem State.withSpi_gen (s : State) (m : Spi) : (s.withSpi m).gen = s.gen := rfl
@[simp] theorem State.withSpi_att (s : State) (m : Spi) : (s.withSpi m).att = s.att := rfl
@[simp] theorem State.withSpi_spi (s : State) (m : Spi) : (s.withSpi m).spi = m := rfl

@[simp] theorem Base.raiseUnderflow_cnt (b : Base) : b.raiseUnderflow.cnt = b.cnt := rfl
@[simp] theorem Base.raiseUnderflow_endCycle (b : Base) : b.raiseUnderflow.endCycle = b.endCycle := rfl
@[simp] theorem Base.raiseUnderflow_clkHigh (b : Base) : b.raiseUnderflow.clkHigh = b.clkHigh := rfl
@[simp] theorem Base.raiseUnderflow_data (b : Base) : b.raiseUnderflow.data = b.data := rfl
@[simp] theorem Base.raiseUnderflow_sr (b : Base) : b.raiseUnderflow.sr = b.sr := rfl
@[simp] theorem Base.raiseUnderflow_rem (b : Base) : b.raiseUnderflow.rem = b.rem := rfl
@[simp] theorem Base.raiseUnderflow_faultUnderflow (b : Base) : b.raiseUnderflow.faultUnderflow = true := rfl

@[simp] theorem Base.tickCounter_cnt (n : Nat) (w : Bool) (b : Base) :
    (b.tickCounter n w).cnt = if w || b.evEnd then 0 else trunc n (b.cnt + 1) := rfl
@[simp] theorem Base.tickCounter_endCycle (n : Nat) (w : Bool) (b : Base) :
    (b.tickCounter n w).endCycle = b.endCycle := rfl
@[simp] theorem Base.tickCounter_clkHigh (n : Nat) (w : Bool) (b : Base) :
    (b.tickCounter n w).clkHigh = b.clkHigh := rfl
@[simp] theorem Base.tickCounter_data (n : Nat) (w : Bool) (b : Base) : (b.tickCounter n w).data = b.data := rfl
@[simp] theorem Base.tickCounter_sr (n : Nat) (w : Bool) (b : Base) : (b.tickCounter n w).sr = b.sr := rfl
@[simp] theorem Base.tickCounter_rem (n : Nat) (w : Bool) (b : Base) : (b.tickCounter n w).rem = b.rem := rfl
@[simp] theorem Base.tickCounter_faultUnderflow (n : Nat) (w : Bool) (b : Base) :
    (b.tickCounter n w).faultUnderflow = b.faultUnderflow := rfl

@[simp] theorem Base.load_cnt (w : Nat) (p : Nat) (b : Base) : (b.load w p).cnt = b.cnt := rfl
@[simp] theorem Base.load_endCycle (w : Nat) (p : Nat) (b : Base) : (b.load w p).endCycle = b.endCycle := rfl
@[simp] theorem Base.load_clkHigh (w : Nat) (p : Nat) (b : Base) : (b.load w p).clkHigh = b.clkHigh := rfl
@[simp] theorem Base.load_data (w : Nat) (p : Nat) (b : Base) : (b.load w p).data = b.data := rfl
@[simp] theorem Base.load_sr (w : Nat) (p : Nat) (b : Base) : (b.load w p).sr = trunc w p := rfl
@[simp] theorem Base.load_rem (w : Nat) (p : Nat) (b : Base) : (b.load w p).rem = w := rfl
@[simp] theorem Base.load_faultUnderflow (w : Nat) (p : Nat) (b : Base) :
    (b.load w p).faultUnderflow = b.faultUnderflow := rfl

@[simp] theorem Base.storeEndCycle_cnt (n : Nat) (v : Nat) (b : Base) : (b.storeEndCycle n v).cnt = b.cnt := rfl
@[simp] theorem Base.storeEndCycle_endCycle (n : Nat) (v : Nat) (b : Base) :
    (b.storeEndCycle n v).endCycle = trunc n v := rfl
@[simp] theorem Base.storeEndCycle_clkHigh (n : Nat) (v : Nat) (b : Base) :
    (b.storeEndCycle n v).clkHigh = b.clkHigh := rfl
@[simp] theorem Base.storeEndCycle_data (n : Nat) (v : Nat) (b : Base) : (b.storeEndCycle n v).data = b.data := rfl
@[simp] theorem Base.storeEndCycle_sr (n : Nat) (v : Nat) (b : Base) : (b.storeEndCycle n v).sr = b.sr := rfl
@[simp] theorem Base.storeEndCycle_rem (n : Nat) (v : Nat) (b : Base) : (b.storeEndCycle n v).rem = b.rem := rfl
@[simp] theorem Base.storeEndCycle_faultUnderflow (n : Nat) (v : Nat) (b : Base) :
    (b.storeEndCycle n v).faultUnderflow = b.faultUnderflow := rfl

@[simp] theorem Base.storeClkHigh_cnt (n : Nat) (v : Nat) (b : Base) : (b.storeClkHigh n v).cnt = b.cnt := rfl
@[simp] theorem Base.storeClkHigh_endCycle (n : Nat) (v : Nat) (b : Base) :
    (b.storeClkHigh n v).endCycle = b.endCycle := rfl
@[simp] theorem Base.storeClkHigh_clkHigh (n : Nat) (v : Nat) (b : Base) :
    (b.storeClkHigh n v).clkHigh = trunc n v := rfl
@[simp] theorem Base.storeClkHigh_data (n : Nat) (v : Nat) (b : Base) : (b.storeClkHigh n v).data = b.data := rfl
@[simp] theorem Base.storeClkHigh_sr (n : Nat) (v : Nat) (b : Base) : (b.storeClkHigh n v).sr = b.sr := rfl
@[simp] theorem Base.storeClkHigh_rem (n : Nat) (v : Nat) (b : Base) : (b.storeClkHigh n v).rem = b.rem := rfl
@[simp] theorem Base.storeClkHigh_faultUnderflow (n : Nat) (v : Nat) (b : Base) :
    (b.storeClkHigh n v).faultUnderflow = b.faultUnderflow := rfl

@[simp] theorem Base.storeData_cnt (n : Nat) (v : Nat) (b : Base) : (b.storeData n v).cnt = b.cnt := rfl
@[simp] theorem Base.storeData_endCycle (n : Nat) (v : Nat) (b : Base) :
    (b.storeData n v).endCycle = b.endCycle := rfl
@[simp] theorem Base.storeData_clkHigh (n : Nat) (v : Nat) (b : Base) : (b.storeData n v).clkHigh = b.clkHigh := rfl
@[simp] theorem Base.storeData_data (n : Nat) (v : Nat) (b : Base) : (b.storeData n v).data = trunc n v := rfl
@[simp] theorem Base.storeData_sr (n : Nat) (v : Nat) (b : Base) : (b.storeData n v).sr = b.sr := rfl
@[simp] theorem Base.storeData_rem (n : Nat) (v : Nat) (b : Base) : (b.storeData n v).rem = b.rem := rfl
@[simp] theorem Base.storeData_faultUnderflow (n : Nat) (v : Nat) (b : Base) :
    (b.storeData n v).faultUnderflow = b.faultUnderflow := rfl

@[simp] theorem Overlay.sync_bbEn (pin : Bool) (o : Overlay) : (o.sync pin).bbEn = o.bbEn := rfl
@[simp] theorem Overlay.sync_bbOut (pin : Bool) (o : Overlay) : (o.sync pin).bbOut = o.bbOut := rfl
@[simp] theorem Overlay.sync_sync1 (pin : Bool) (o : Overlay) : (o.sync pin).sync1 = pin := rfl
@[simp] theorem Overlay.sync_sync2 (pin : Bool) (o : Overlay) : (o.sync pin).sync2 = o.sync1 := rfl

@[simp] theorem Port.returnData_inp (v : Nat) (p : Port) : (p.returnData v).inp = p.inp := rfl
@[simp] theorem Port.returnData_script (v : Nat) (p : Port) : (p.returnData v).script = p.script := rfl
@[simp] theorem Port.returnData_line (v : Nat) (p : Port) : (p.returnData v).line = p.line := rfl
@[simp] theorem Port.returnData_rdata (v : Nat) (p : Port) : (p.returnData v).rdata = some v := rfl

@[simp] theorem Port.advance_inp (busy : Bool) (p : Port) :
    (p.advance busy).inp = (present busy p.line p.script).1 := rfl
@[simp] theorem Port.advance_script (busy : Bool) (p : Port) :
    (p.advance busy).script = (present busy p.line p.script).2.2 := rfl
@[simp] theorem Port.advance_line (busy : Bool) (p : Port) :
    (p.advance busy).line = (present busy p.line p.script).2.1 := rfl
@[simp] theorem Port.advance_rdata (busy : Bool) (p : Port) : (p.advance busy).rdata = p.rdata := rfl

@[simp] theorem Serial.waitTick_base (d : Config.Dims) (p : Nat) (x : Serial) :
    (x.waitTick d p).base = (x.base.load d.width p).tickCounter d.cycleBits true := rfl
@[simp] theorem Serial.waitTick_clk (d : Config.Dims) (p : Nat) (x : Serial) : (x.waitTick d p).clk = x.clk := rfl
@[simp] theorem Serial.waitTick_sdo (d : Config.Dims) (p : Nat) (x : Serial) : (x.waitTick d p).sdo = x.sdo := rfl

@[simp] theorem Serial.transferTick_base (d : Config.Dims) (x : Serial) :
    (x.transferTick d).base = (if x.base.evData then x.base.shift else x.base).tickCounter d.cycleBits false := rfl
@[simp] theorem Serial.transferTick_clk (d : Config.Dims) (x : Serial) :
    (x.transferTick d).clk = genClockEdges x.base x.clk := rfl
@[simp] theorem Serial.transferTick_sdo (d : Config.Dims) (x : Serial) :
    (x.transferTick d).sdo = if x.base.evData then x.base.shiftBit else x.sdo := rfl

@[simp] theorem Serial.holdTick_base (d : Config.Dims) (x : Serial) :
    (x.holdTick d).base = x.base.tickCounter d.cycleBits false := rfl
@[simp] theorem Serial.holdTick_clk (d : Config.Dims) (x : Serial) : (x.holdTick d).clk = x.clk := rfl
@[simp] theorem Serial.holdTick_sdo (d : Config.Dims) (x : Serial) : (x.holdTick d).sdo = x.sdo := rfl

@[simp] theorem I2c.waitTick_par (m : I2c) : m.waitTick.par = m.par := rfl
@[simp] theorem I2c.waitTick_state (m : I2c) :
    m.waitTick.state = if m.port.inp.dataReady then .start else m.state := rfl
@[simp] theorem I2c.waitTick_base (m : I2c) :
    m.waitTick.base = (m.base.load m.par.width m.port.inp.payload).tickCounter m.par.cycleBits true := rfl
@[simp] theorem I2c.waitTick_start (m : I2c) : m.waitTick.start = m.start := rfl
@[simp] theorem I2c.waitTick_stopLow (m : I2c) : m.waitTick.stopLow = m.stopLow := rfl
@[simp] theorem I2c.waitTick_stopHigh (m : I2c) : m.waitTick.stopHigh = m.stopHigh := rfl
@[simp] theorem I2c.waitTick_scl (m : I2c) : m.waitTick.scl = m.scl := rfl
@[simp] theorem I2c.waitTick_sdaO (m : I2c) : m.waitTick.sdaO = m.sdaO := rfl
@[simp] theorem I2c.waitTick_overlay (m : I2c) : m.waitTick.overlay = m.overlay := rfl
@[simp] theorem I2c.waitTick_port (m : I2c) : m.waitTick.port = m.port := rfl

@[simp] theorem I2c.startTick_par (m : I2c) : m.startTick.par = m.par := rfl
@[simp] theorem I2c.startTick_state (m : I2c) : m.startTick.state = if m.base.evEnd then .transfer else m.state := rfl
@[simp] theorem I2c.startTick_base (m : I2c) : m.startTick.base = m.base.tickCounter m.par.cycleBits false := rfl
@[simp] theorem I2c.startTick_start (m : I2c) : m.startTick.start = m.start := rfl
@[simp] theorem I2c.startTick_stopLow (m : I2c) : m.startTick.stopLow = m.stopLow := rfl
@[simp] theorem I2c.startTick_stopHigh (m : I2c) : m.startTick.stopHigh = m.stopHigh := rfl
@[simp] theorem I2c.startTick_scl (m : I2c) : m.startTick.scl = i2cClockEdges m.base m.scl := rfl
@[simp] theorem I2c.startTick_sdaO (m : I2c) : m.startTick.sdaO = if m.evStart then false else m.sdaO := rfl
@[simp] theorem I2c.startTick_overlay (m : I2c) : m.startTick.overlay = m.overlay := rfl
@[simp] theorem I2c.startTick_port (m : I2c) : m.startTick.port = m.port := rfl

@[simp] theorem I2c.transferTick_par (m : I2c) : m.transferTick.par = m.par := rfl
@[simp] theorem I2c.transferTick_state (m : I2c) :
    m.transferTick.state = if m.base.evEnd && m.base.rem % 8 == 0 then .ack else m.state := rfl
@[simp] theorem I2c.transferTick_base (m : I2c) :
    m.transferTick.base = (if m.base.evData then m.base.shift else m.base).tickCounter m.par.cycleBits false := rfl
@[simp] theorem I2c.transferTick_start (m : I2c) : m.transferTick.start = m.start := rfl
@[simp] theorem I2c.transferTick_stopLow (m : I2c) : m.transferTick.stopLow = m.stopLow := rfl
@[simp] theorem I2c.transferTick_stopHigh (m : I2c) : m.transferTick.stopHigh = m.stopHigh := rfl
@[simp] theorem I2c.transferTick_scl (m : I2c) : m.transferTick.scl = i2cClockEdges m.base m.scl := rfl
@[simp] theorem I2c.transferTick_sdaO (m : I2c) :
    m.transferTick.sdaO = if m.base.evData then m.base.shiftBit else m.sdaO := rfl
@[simp] theorem I2c.transferTick_overlay (m : I2c) : m.transferTick.overlay = m.overlay := rfl
@[simp] theorem I2c.transferTick_port (m : I2c) : m.transferTick.port = m.port := rfl

@[simp] theorem I2c.ackTick_par (m : I2c) : m.ackTick.par = m.par := rfl
@[simp] theorem I2c.ackTick_state (m : I2c) :
    m.ackTick.state = if m.base.evEnd then (if m.base.rem = 0 then .stop else .transfer) else m.state := rfl
@[simp] theorem I2c.ackTick_base (m : I2c) : m.ackTick.base = m.base.tickCounter m.par.cycleBits false := rfl
@[simp] theorem I2c.ackTick_start (m : I2c) : m.ackTick.start = m.start := rfl
@[simp] theorem I2c.ackTick_stopLow (m : I2c) : m.ackTick.stopLow = m.stopLow := rfl
@[simp] theorem I2c.ackTick_stopHigh (m : I2c) : m.ackTick.stopHigh = m.stopHigh := rfl
@[simp] theorem I2c.ackTick_scl (m : I2c) : m.ackTick.scl = i2cClockEdges m.base m.scl := rfl
@[simp] theorem I2c.ackTick_sdaO (m : I2c) : m.ackTick.sdaO = m.sdaO := rfl
@[simp] theorem I2c.ackTick_overlay (m : I2c) : m.ackTick.overlay = m.overlay := rfl
@[simp] theorem I2c.ackTick_port (m : I2c) : m.ackTick.port = m.port := rfl

@[simp] theorem I2c.stopTick_par (m : I2c) : m.stopTick.par = m.par := rfl
@[simp] theorem I2c.stopTick_state (m : I2c) : m.stopTick.state = if m.base.evEnd then .wait else m.state := rfl
@[simp] theorem I2c.stopTick_base (m : I2c) : m.stopTick.base = m.base.tickCounter m.par.cycleBits false := rfl
@[simp] theorem I2c.stopTick_start (m : I2c) : m.stopTick.start = m.start := rfl
@[simp] theorem I2c.stopTick_stopLow (m : I2c) : m.stopTick.stopLow = m.stopLow := rfl
@[simp] theorem I2c.stopTick_stopHigh (m : I2c) : m.stopTick.stopHigh = m.stopHigh := rfl
@[simp] theorem I2c.stopTick_scl (m : I2c) : m.stopTick.scl = if m.base.evClkHigh then true else m.scl := rfl
@[simp] theorem I2c.stopTick_sdaO (m : I2c) :
    m.stopTick.sdaO = if m.evStopHigh then true else if m.evStopLow then false else m.sdaO := rfl
@[simp] theorem I2c.stopTick_overlay (m : I2c) : m.stopTick.overlay = m.overlay := rfl
@[simp] theorem I2c.stopTick_port (m : I2c) : m.stopTick.port = m.port := rfl

@[simp] theorem Gen.waitTick_par (m : Gen) : m.waitTick.par = m.par := rfl
@[simp] theorem Gen.waitTick_state (m : Gen) :
    m.waitTick.state = if m.port.inp.dataReady then .transfer else m.state := rfl
@[simp] theorem Gen.waitTick_serial (m : Gen) :
    m.waitTick.serial = m.serial.waitTick m.par.toDims m.port.inp.payload := rfl
@[simp] theorem Gen.waitTick_port (m : Gen) : m.waitTick.port = m.port := rfl

@[simp] theorem Gen.transferTick_par (m : Gen) : m.transferTick.par = m.par := rfl
@[simp] theorem Gen.transferTick_state (m : Gen) :
    m.transferTick.state = if m.serial.transferEnds then .wait else m.state := rfl
@[simp] theorem Gen.transferTick_serial (m : Gen) : m.transferTick.serial = m.serial.transferTick m.par.toDims := rfl
@[simp] theorem Gen.transferTick_port (m : Gen) : m.transferTick.port = m.port := rfl

@[simp] theorem Att.waitTick_par (m : Att) : m.waitTick.par = m.par := rfl
@[simp] theorem Att.waitTick_state (m : Att) :
    m.waitTick.state = if m.port.inp.dataReady then .transfer else m.state := rfl
@[simp] theorem Att.waitTick_serial (m : Att) :
    m.waitTick.serial = m.serial.waitTick m.par.toDims m.port.inp.payload := rfl
@[simp] theorem Att.waitTick_leHigh (m : Att) : m.waitTick.leHigh = m.leHigh := rfl
@[simp] theorem Att.waitTick_leLow (m : Att) : m.waitTick.leLow = m.leLow := rfl
@[simp] theorem Att.waitTick_lcnt (m : Att) : m.waitTick.lcnt = 0 := rfl
@[simp] theorem Att.waitTick_le (m : Att) : m.waitTick.le = m.le := rfl
@[simp] theorem Att.waitTick_port (m : Att) : m.waitTick.port = m.port := rfl

@[simp] theorem Att.transferTick_par (m : Att) : m.transferTick.par = m.par := rfl
@[simp] theorem Att.transferTick_state (m : Att) :
    m.transferTick.state = if m.serial.transferEnds then .latch else m.state := rfl
@[simp] theorem Att.transferTick_serial (m : Att) : m.transferTick.serial = m.serial.transferTick m.par.toDims := rfl
@[simp] theorem Att.transferTick_leHigh (m : Att) : m.transferTick.leHigh = m.leHigh := rfl
@[simp] theorem Att.transferTick_leLow (m : Att) : m.transferTick.leLow = m.leLow := rfl
@[simp] theorem Att.transferTick_lcnt (m : Att) : m.transferTick.lcnt = 0 := rfl
@[simp] theorem Att.transferTick_le (m : Att) : m.transferTick.le = m.le := rfl
@[simp] theorem Att.transferTick_port (m : Att) : m.transferTick.port = m.port := rfl

@[simp] theorem Att.latchTick_par (m : Att) : m.latchTick.par = m.par := rfl
@[simp] theorem Att.latchTick_state (m : Att) : m.latchTick.state = if m.evLeLow then .wait else m.state := rfl
@[simp] theorem Att.latchTick_serial (m : Att) : m.latchTick.serial = m.serial.holdTick m.par.toDims := rfl
@[simp] theorem Att.latchTick_leHigh (m : Att) : m.latchTick.leHigh = m.leHigh := rfl
@[simp] theorem Att.latchTick_leLow (m : Att) : m.latchTick.leLow = m.leLow := rfl
@[simp] theorem Att.latchTick_lcnt (m : Att) : m.latchTick.lcnt = trunc m.par.cycleBits (m.lcnt + 1) := rfl
@[simp] theorem Att.latchTick_le (m : Att) :
    m.latchTick.le = if m.evLeLow then false else if m.evLeHigh then true else m.le := rfl
@[simp] theorem Att.latchTick_port (m : Att) : m.latchTick.port = m.port := rfl

@[simp] theorem Spi.waitTick_par (m : Spi) : m.waitTick.par = m.par := rfl
@[simp] theorem Spi.waitTick_state (m : Spi) :
    m.waitTick.state = if m.port.inp.dataReady then .firstclk else m.state := rfl
@[simp] theorem Spi.waitTick_serial (m : Spi) :
    m.waitTick.serial = m.serial.waitTick m.par.toDims m.port.inp.payload := rfl
@[simp] theorem Spi.waitTick_csn (m : Spi) : m.waitTick.csn = m.csn := rfl
@[simp] theorem Spi.waitTick_overlay (m : Spi) : m.waitTick.overlay = m.overlay := rfl
@[simp] theorem Spi.waitTick_port (m : Spi) : m.waitTick.port = m.port := rfl

@[simp] theorem Spi.firstclkTick_par (m : Spi) : m.firstclkTick.par = m.par := rfl
@[simp] theorem Spi.firstclkTick_state (m : Spi) :
    m.firstclkTick.state = if m.serial.base.evEnd then .transfer else m.state := rfl
@[simp] theorem Spi.firstclkTick_serial (m : Spi) :
    m.firstclkTick.serial =
      { m.serial.holdTick m.par.toDims with clk := genClockEdges m.serial.base m.serial.clk } := rfl
@[simp] theorem Spi.firstclkTick_csn (m : Spi) : m.firstclkTick.csn = m.csn := rfl
@[simp] theorem Spi.firstclkTick_overlay (m : Spi) : m.firstclkTick.overlay = m.overlay := rfl
@[simp] theorem Spi.firstclkTick_port (m : Spi) : m.firstclkTick.port = m.port := rfl

@[simp] theorem Spi.transferTick_par (m : Spi) : m.transferTick.par = m.par := rfl
@[simp] theorem Spi.transferTick_state (m : Spi) :
    m.transferTick.state = if m.serial.transferEnds then .csnHi else m.state := rfl
@[simp] theorem Spi.transferTick_serial (m : Spi) : m.transferTick.serial = m.serial.transferTick m.par.toDims := rfl
@[simp] theorem Spi.transferTick_csn (m : Spi) :
    m.transferTick.csn = if m.serial.base.evData then false else m.csn := rfl
@[simp] theorem Spi.transferTick_overlay (m : Spi) : m.transferTick.overlay = m.overlay := rfl
@[simp] theorem Spi.transferTick_port (m : Spi) : m.transferTick.port = m.port := rfl

@[simp] theorem Spi.csnHiTick_par (m : Spi) : m.csnHiTick.par = m.par := rfl
@[simp] theorem Spi.csnHiTick_state (m : Spi) :
    m.csnHiTick.state = if m.serial.base.evEnd then .wait else m.state := rfl
@[simp] theorem Spi.csnHiTick_serial (m : Spi) :
    m.csnHiTick.serial =
      { m.serial.holdTick m.par.toDims with clk := if m.serial.base.evClkHigh then true else m.serial.clk } := rfl
@[simp] theorem Spi.csnHiTick_csn (m : Spi) : m.csnHiTick.csn = if m.serial.base.evData then true else m.csn := rfl
@[simp] theorem Spi.csnHiTick_overlay (m : Spi) : m.csnHiTick.overlay = m.overlay := rfl
@[simp] theorem Spi.csnHiTick_port (m : Spi) : m.csnHiTick.port = m.port := rfl

@[simp] theorem I2c.applyReset_par (m : I2c) : m.applyReset.par = m.par := rfl
@[simp] theorem I2c.applyReset_state (m : I2c) : m.applyReset.state = .wait := rfl
@[simp] theorem I2c.applyReset_base (m : I2c) :
    m.applyReset.base =
      { Base.powerUp m.par.width m.par.tEndCycle m.par.tClkHigh m.par.tData with faultUnderflow := m.base.faultUnderflow } := rfl
@[simp] theorem I2c.applyReset_start (m : I2c) : m.applyReset.start = m.par.tStart := rfl
@[simp] theorem I2c.applyReset_stopLow (m : I2c) : m.applyReset.stopLow = m.par.tStopLow := rfl
@[simp] theorem I2c.applyReset_stopHigh (m : I2c) : m.applyReset.stopHigh = m.par.tStopHigh := rfl
@[simp] theorem I2c.applyReset_scl (m : I2c) : m.applyReset.scl = true := rfl
@[simp] theorem I2c.applyReset_sdaO (m : I2c) : m.applyReset.sdaO = true := rfl
@[simp] theorem I2c.applyReset_overlay (m : I2c) :
    m.applyReset.overlay =
      { bbEn := false, bbOut := 0b111#3, sync1 := m.overlay.sync1, sync2 := m.overlay.sync2 } := rfl
@[simp] theorem I2c.applyReset_port (m : I2c) : m.applyReset.port = m.port := rfl

@[simp] theorem Gen.applyReset_par (m : Gen) : m.applyReset.par = m.par := rfl
@[simp] theorem Gen.applyReset_state (m : Gen) : m.applyReset.state = .wait := rfl
@[simp] theorem Gen.applyReset_serial (m : Gen) :
    m.applyReset.serial =
      { base := { Base.powerUp m.par.width m.par.tEndCycle m.par.tClkHigh m.par.tData with faultUnderflow := m.serial.base.faultUnderflow }, clk := false, sdo := false } := rfl
@[simp] theorem Gen.applyReset_port (m : Gen) : m.applyReset.port = m.port := rfl

@[simp] theorem Att.applyReset_par (m : Att) : m.applyReset.par = m.par := rfl
@[simp] theorem Att.applyReset_state (m : Att) : m.applyReset.state = .wait := rfl
@[simp] theorem Att.applyReset_serial (m : Att) :
    m.applyReset.serial =
      { base := { Base.powerUp m.par.width 8 m.par.tClkHigh m.par.tData with faultUnderflow := m.serial.base.faultUnderflow }, clk := false, sdo := false } := rfl
@[simp] theorem Att.applyReset_leHigh (m : Att) : m.applyReset.leHigh = 5 := rfl
@[simp] theorem Att.applyReset_leLow (m : Att) : m.applyReset.leLow = 15 := rfl
@[simp] theorem Att.applyReset_lcnt (m : Att) : m.applyReset.lcnt = 0 := rfl
@[simp] theorem Att.applyReset_le (m : Att) : m.applyReset.le = false := rfl
@[simp] theorem Att.applyReset_port (m : Att) : m.applyReset.port = m.port := rfl

@[simp] theorem Spi.applyReset_par (m : Spi) : m.applyReset.par = m.par := rfl
@[simp] theorem Spi.applyReset_state (m : Spi) : m.applyReset.state = .wait := rfl
@[simp] theorem Spi.applyReset_serial (m : Spi) :
    m.applyReset.serial =
      { base := { Base.powerUp m.par.width m.par.tEndCycle m.par.tClkHigh m.par.tData with faultUnderflow := m.serial.base.faultUnderflow }, clk := true, sdo := false } := rfl
@[simp] theorem Spi.applyReset_csn (m : Spi) : m.applyReset.csn = true := rfl
@[simp] theorem Spi.applyReset_overlay (m : Spi) :
    m.applyReset.overlay =
      { bbEn := false, bbOut := 0b101#3, sync1 := m.overlay.sync1, sync2 := m.overlay.sync2 } := rfl
@[simp] theorem Spi.applyReset_port (m : Spi) : m.applyReset.port = m.port := rfl

end Sys2Proof.Machine
end

