-- ==== Sys2Proof/Laws/Ops.lean ====
section
/-! SUPPORT. Laws/Ops.lean: for each shared operation, once, all it can do. -/

namespace Sys2Proof.Machine

theorem trunc_lt (n v : Nat) : trunc n v < 2 ^ n := Nat.mod_lt _ (Nat.two_pow_pos n)

theorem trunc_of_lt {n v : Nat} (h : v < 2 ^ n) : trunc n v = v := Nat.mod_eq_of_lt h

/-- `andThen` answers a next state exactly when both parts do. -/
theorem andThen_eq_next {o : Result} {f : State → Result} {t : State} :
    andThen o f = .next t ↔ ∃ s, o = .next s ∧ f s = .next t := by
  cases o <;> simp [andThen]

@[simp] theorem andThen_next (s : State) (f : State → Result) : andThen (.next s) f = f s := rfl

@[simp] theorem andThen_refused (r : Refusal) (f : State → Result) : andThen (.refused r) f = .refused r := rfl

@[simp] theorem Base.evEnd_iff (b : Base) : b.evEnd = true ↔ b.cnt = b.endCycle := by simp [Base.evEnd, Base.event]

@[simp] theorem Base.evClkHigh_iff (b : Base) : b.evClkHigh = true ↔ b.cnt = b.clkHigh := by
  simp [Base.evClkHigh, Base.event]

@[simp] theorem Base.evData_iff (b : Base) : b.evData = true ↔ b.cnt = b.data := by simp [Base.evData, Base.event]

@[simp] theorem I2c.evStart_iff (m : I2c) : m.evStart = true ↔ m.base.cnt = m.start := by
  simp [I2c.evStart, Base.event]

@[simp] theorem I2c.evStopLow_iff (m : I2c) : m.evStopLow = true ↔ m.base.cnt = m.stopLow := by
  simp [I2c.evStopLow, Base.event]

@[simp] theorem I2c.evStopHigh_iff (m : I2c) : m.evStopHigh = true ↔ m.base.cnt = m.stopHigh := by
  simp [I2c.evStopHigh, Base.event]

@[simp] theorem Att.evLeHigh_iff (m : Att) : m.evLeHigh = true ↔ m.lcnt = m.leHigh := by simp [Att.evLeHigh]

@[simp] theorem Att.evLeLow_iff (m : Att) : m.evLeLow = true ↔ m.lcnt = m.leLow := by simp [Att.evLeLow]

@[simp] theorem Serial.transferEnds_iff (x : Serial) :
    x.transferEnds = true ↔ x.base.cnt = x.base.endCycle ∧ x.base.rem = 0 := by simp [Serial.transferEnds]

@[simp] theorem Base.shift_cnt (b : Base) : b.shift.cnt = b.cnt := by unfold Base.shift; split <;> rfl

@[simp] theorem Base.shift_endCycle (b : Base) : b.shift.endCycle = b.endCycle := by unfold Base.shift; split <;> rfl

@[simp] theorem Base.shift_clkHigh (b : Base) : b.shift.clkHigh = b.clkHigh := by unfold Base.shift; split <;> rfl

@[simp] theorem Base.shift_data (b : Base) : b.shift.data = b.data := by unfold Base.shift; split <;> rfl

@[simp] theorem Base.shift_sr (b : Base) : b.shift.sr = b.sr >>> 1 := by unfold Base.shift; split <;> rfl

@[simp] theorem Base.shift_rem (b : Base) : b.shift.rem = b.rem - 1 := by unfold Base.shift; split <;> rfl

/-- A shift sets the fault exactly when `rem` is 0 (41_bit_shifter.md R142), and nothing clears it. -/
@[simp] theorem Base.shift_faultUnderflow (b : Base) :
    b.shift.faultUnderflow = (b.faultUnderflow || b.rem == 0) := by
  unfold Base.shift; split <;> simp_all

/-- The clock action by its events: `ev_end` wins (60_exceptions.md R275). -/
theorem i2cClockEdges_eq (b : Base) (scl : Bool) :
    i2cClockEdges b scl = if b.cnt = b.endCycle then false else if b.cnt = b.clkHigh then true else scl := by
  simp [i2cClockEdges]

theorem genClockEdges_eq (b : Base) (clk : Bool) :
    genClockEdges b clk = if b.cnt = b.endCycle then false else if b.cnt = b.clkHigh then true else clk := by
  simp [genClockEdges]

/-- A configuration access returns the value, stores, or is lost in a reset tick. -/
theorem I2c.access_eq (m : I2c) (a : CfgAccess) (value : Nat) (store : Nat → I2c) :
    m.access a value store =
      match a with
      | .read => { m with port := m.port.returnData value }
      | .write v => if m.port.inp.rst then m else store v := rfl

/-- A state register is always fetched: its code names a state row (30_encoding.md R96). -/
theorem decodeState_stateCode_isSome (s : State) (v : Variant) : (decodeState v (s.stateCode v)).isSome := by
  cases v
  · show (decodeState .i2c s.i2c.state.code).isSome; cases s.i2c.state <;> rfl
  · show (decodeState .gen s.gen.state.code).isSome; cases s.gen.state <;> rfl
  · show (decodeState .att s.att.state.code).isSome; cases s.att.state <;> rfl
  · show (decodeState .spi s.spi.state.code).isSome; cases s.spi.state <;> rfl

/-- The indices that name a register (30_encoding.md R100). -/
theorem index_le_of_decodeCfg {v : Variant} {n : Nat} {a : CfgAccess} (h : (decodeCfg v n a).isSome) :
    n ≤ match v with
      | .i2c => 8
      | .gen => 2
      | .att => 4
      | .spi => 5 := by
  revert h
  unfold decodeCfg
  split <;> simp

end Sys2Proof.Machine
end

