-- ==== Sys2Proof/Laws/PerInstr.lean ====
section
/-! SUPPORT. Laws/PerInstr.lean: facts about each instruction as syntax. -/

namespace Sys2Proof.Laws.HeaderDecodes

/-- The code and context of the instruction name its row, each fits a byte, and its row with its access operand decodes to it
alone. -/
def Statement (i : Instr) : Prop :=
  i.row.code < 256 ∧ i.row.context < 256 ∧ rowIn i.row.context i.row.code = .ok i.row ∧
    match i.row, i.access with
    | .state v c, none => decodeState v c = some i
    | .cfg v c, some a => decodeCfg v c a = some i
    | _, _ => False

theorem i2cWait : Statement .i2cWait := ⟨by simp [Instr.row, Row.code], by simp [Instr.row, Row.context], rfl, rfl⟩

theorem i2cStart : Statement .i2cStart := ⟨by simp [Instr.row, Row.code], by simp [Instr.row, Row.context], rfl, rfl⟩

theorem i2cTransfer : Statement .i2cTransfer := ⟨by simp [Instr.row, Row.code], by simp [Instr.row, Row.context], rfl, rfl⟩

theorem i2cAck : Statement .i2cAck := ⟨by simp [Instr.row, Row.code], by simp [Instr.row, Row.context], rfl, rfl⟩

theorem i2cStop : Statement .i2cStop := ⟨by simp [Instr.row, Row.code], by simp [Instr.row, Row.context], rfl, rfl⟩

theorem genWait : Statement .genWait := ⟨by simp [Instr.row, Row.code], by simp [Instr.row, Row.context], rfl, rfl⟩

theorem genTransfer : Statement .genTransfer := ⟨by simp [Instr.row, Row.code], by simp [Instr.row, Row.context], rfl, rfl⟩

theorem attWait : Statement .attWait := ⟨by simp [Instr.row, Row.code], by simp [Instr.row, Row.context], rfl, rfl⟩

theorem attTransfer : Statement .attTransfer := ⟨by simp [Instr.row, Row.code], by simp [Instr.row, Row.context], rfl, rfl⟩

theorem attLatch : Statement .attLatch := ⟨by simp [Instr.row, Row.code], by simp [Instr.row, Row.context], rfl, rfl⟩

theorem spiWait : Statement .spiWait := ⟨by simp [Instr.row, Row.code], by simp [Instr.row, Row.context], rfl, rfl⟩

theorem spiTransfer : Statement .spiTransfer := ⟨by simp [Instr.row, Row.code], by simp [Instr.row, Row.context], rfl, rfl⟩

theorem spiFirstclk : Statement .spiFirstclk := ⟨by simp [Instr.row, Row.code], by simp [Instr.row, Row.context], rfl, rfl⟩

theorem spiCsnHi : Statement .spiCsnHi := ⟨by simp [Instr.row, Row.code], by simp [Instr.row, Row.context], rfl, rfl⟩

theorem cfgI2cEndCycle (a : CfgAccess) : Statement (.cfgI2cEndCycle a) :=
  ⟨by simp [Instr.row, Row.code], by simp [Instr.row, Row.context], rfl, rfl⟩

theorem cfgI2cClkHigh (a : CfgAccess) : Statement (.cfgI2cClkHigh a) :=
  ⟨by simp [Instr.row, Row.code], by simp [Instr.row, Row.context], rfl, rfl⟩

theorem cfgI2cData (a : CfgAccess) : Statement (.cfgI2cData a) :=
  ⟨by simp [Instr.row, Row.code], by simp [Instr.row, Row.context], rfl, rfl⟩

theorem cfgI2cStart (a : CfgAccess) : Statement (.cfgI2cStart a) :=
  ⟨by simp [Instr.row, Row.code], by simp [Instr.row, Row.context], rfl, rfl⟩

theorem cfgI2cStopLow (a : CfgAccess) : Statement (.cfgI2cStopLow a) :=
  ⟨by simp [Instr.row, Row.code], by simp [Instr.row, Row.context], rfl, rfl⟩

theorem cfgI2cStopHigh (a : CfgAccess) : Statement (.cfgI2cStopHigh a) :=
  ⟨by simp [Instr.row, Row.code], by simp [Instr.row, Row.context], rfl, rfl⟩

theorem cfgI2cBbEn (a : CfgAccess) : Statement (.cfgI2cBbEn a) :=
  ⟨by simp [Instr.row, Row.code], by simp [Instr.row, Row.context], rfl, rfl⟩

theorem cfgI2cBbOut (a : CfgAccess) : Statement (.cfgI2cBbOut a) :=
  ⟨by simp [Instr.row, Row.code], by simp [Instr.row, Row.context], rfl, rfl⟩

theorem cfgI2cSdaIn (a : CfgAccess) : Statement (.cfgI2cSdaIn a) :=
  ⟨by simp [Instr.row, Row.code], by simp [Instr.row, Row.context], rfl, rfl⟩

theorem cfgGenEndCycle (a : CfgAccess) : Statement (.cfgGenEndCycle a) :=
  ⟨by simp [Instr.row, Row.code], by simp [Instr.row, Row.context], rfl, rfl⟩

theorem cfgGenClkHigh (a : CfgAccess) : Statement (.cfgGenClkHigh a) :=
  ⟨by simp [Instr.row, Row.code], by simp [Instr.row, Row.context], rfl, rfl⟩

theorem cfgGenData (a : CfgAccess) : Statement (.cfgGenData a) :=
  ⟨by simp [Instr.row, Row.code], by simp [Instr.row, Row.context], rfl, rfl⟩

theorem cfgAttEndCycle (a : CfgAccess) : Statement (.cfgAttEndCycle a) :=
  ⟨by simp [Instr.row, Row.code], by simp [Instr.row, Row.context], rfl, rfl⟩

theorem cfgAttClkHigh (a : CfgAccess) : Statement (.cfgAttClkHigh a) :=
  ⟨by simp [Instr.row, Row.code], by simp [Instr.row, Row.context], rfl, rfl⟩

theorem cfgAttData (a : CfgAccess) : Statement (.cfgAttData a) :=
  ⟨by simp [Instr.row, Row.code], by simp [Instr.row, Row.context], rfl, rfl⟩

theorem cfgAttLeHigh (a : CfgAccess) : Statement (.cfgAttLeHigh a) :=
  ⟨by simp [Instr.row, Row.code], by simp [Instr.row, Row.context], rfl, rfl⟩

theorem cfgAttLeLow (a : CfgAccess) : Statement (.cfgAttLeLow a) :=
  ⟨by simp [Instr.row, Row.code], by simp [Instr.row, Row.context], rfl, rfl⟩

theorem cfgSpiEndCycle (a : CfgAccess) : Statement (.cfgSpiEndCycle a) :=
  ⟨by simp [Instr.row, Row.code], by simp [Instr.row, Row.context], rfl, rfl⟩

theorem cfgSpiClkHigh (a : CfgAccess) : Statement (.cfgSpiClkHigh a) :=
  ⟨by simp [Instr.row, Row.code], by simp [Instr.row, Row.context], rfl, rfl⟩

theorem cfgSpiData (a : CfgAccess) : Statement (.cfgSpiData a) :=
  ⟨by simp [Instr.row, Row.code], by simp [Instr.row, Row.context], rfl, rfl⟩

theorem cfgSpiBbEn (a : CfgAccess) : Statement (.cfgSpiBbEn a) :=
  ⟨by simp [Instr.row, Row.code], by simp [Instr.row, Row.context], rfl, rfl⟩

theorem cfgSpiBbOut (a : CfgAccess) : Statement (.cfgSpiBbOut a) :=
  ⟨by simp [Instr.row, Row.code], by simp [Instr.row, Row.context], rfl, rfl⟩

theorem cfgSpiSdiIn (a : CfgAccess) : Statement (.cfgSpiSdiIn a) :=
  ⟨by simp [Instr.row, Row.code], by simp [Instr.row, Row.context], rfl, rfl⟩

end Sys2Proof.Laws.HeaderDecodes
end

