-- ==== Sys2Proof/Laws/Step.lean ====
section
/-! SUPPORT. Laws/Step.lean: what one tick does, once, as a plain function of each instance (`tickNext`), and the inversion
lemma `step_eq_next`: a step answers a next state exactly when every access names a register, and then each instance
is its own `tickNext`. Every proof about `step` starts here. -/

namespace Sys2Proof.Machine

/-- The value of I2C register `n` (30_encoding.md R100). -/
def I2c.regValue (m : I2c) : Nat → Nat
  | 0 => m.base.endCycle
  | 1 => m.base.clkHigh
  | 2 => m.base.data
  | 3 => m.start
  | 4 => m.stopLow
  | 5 => m.stopHigh
  | 6 => zextBit m.overlay.bbEn
  | 7 => m.overlay.bbOut.toNat
  | _ => zextBit m.overlay.sync2

/-- I2C after a write of `v` to register `n`. -/
def I2c.store (m : I2c) (n v : Nat) : I2c :=
  match n with
  | 0 => { m with base := m.base.storeEndCycle m.par.cycleBits v }
  | 1 => { m with base := m.base.storeClkHigh m.par.cycleBits v }
  | 2 => { m with base := m.base.storeData m.par.cycleBits v }
  | 3 => { m with start := trunc m.par.cycleBits v }
  | 4 => { m with stopLow := trunc m.par.cycleBits v }
  | 5 => { m with stopHigh := trunc m.par.cycleBits v }
  | 6 => { m with overlay := { m.overlay with bbEn := bit0 v } }
  | 7 => { m with overlay := { m.overlay with bbOut := low3 v } }
  | _ => m

def Gen.regValue (m : Gen) : Nat → Nat
  | 0 => m.serial.base.endCycle
  | 1 => m.serial.base.clkHigh
  | _ => m.serial.base.data

def Gen.store (m : Gen) (n v : Nat) : Gen :=
  match n with
  | 0 => { m with serial := { m.serial with base := m.serial.base.storeEndCycle m.par.cycleBits v } }
  | 1 => { m with serial := { m.serial with base := m.serial.base.storeClkHigh m.par.cycleBits v } }
  | 2 => { m with serial := { m.serial with base := m.serial.base.storeData m.par.cycleBits v } }
  | _ => m

def Att.regValue (m : Att) : Nat → Nat
  | 0 => m.serial.base.endCycle
  | 1 => m.serial.base.clkHigh
  | 2 => m.serial.base.data
  | 3 => m.leHigh
  | _ => m.leLow

def Att.store (m : Att) (n v : Nat) : Att :=
  match n with
  | 0 => { m with serial := { m.serial with base := m.serial.base.storeEndCycle m.par.cycleBits v } }
  | 1 => { m with serial := { m.serial with base := m.serial.base.storeClkHigh m.par.cycleBits v } }
  | 2 => { m with serial := { m.serial with base := m.serial.base.storeData m.par.cycleBits v } }
  | 3 => { m with leHigh := trunc m.par.cycleBits v }
  | 4 => { m with leLow := trunc m.par.cycleBits v }
  | _ => m

def Spi.regValue (m : Spi) : Nat → Nat
  | 0 => m.serial.base.endCycle
  | 1 => m.serial.base.clkHigh
  | 2 => m.serial.base.data
  | 3 => zextBit m.overlay.bbEn
  | 4 => m.overlay.bbOut.toNat
  | _ => zextBit m.overlay.sync2

def Spi.store (m : Spi) (n v : Nat) : Spi :=
  match n with
  | 0 => { m with serial := { m.serial with base := m.serial.base.storeEndCycle m.par.cycleBits v } }
  | 1 => { m with serial := { m.serial with base := m.serial.base.storeClkHigh m.par.cycleBits v } }
  | 2 => { m with serial := { m.serial with base := m.serial.base.storeData m.par.cycleBits v } }
  | 3 => { m with overlay := { m.overlay with bbEn := bit0 v } }
  | 4 => { m with overlay := { m.overlay with bbOut := low3 v } }
  | _ => m

/-- The host's side after the tick's read: the value of the register read, or none. -/
def Port.readNext (p : Port) (value : Nat → Nat) : Port := { p with rdata := p.inp.cfgRd.map fun r => value r.toNat }

/-- The rule of the instance's state. -/
def I2c.stateTick (m : I2c) : I2c :=
  match m.state with
  | .wait => m.waitTick
  | .start => m.startTick
  | .transfer => m.transferTick
  | .ack => m.ackTick
  | .stop => m.stopTick

def Gen.stateTick (m : Gen) : Gen :=
  match m.state with
  | .wait => m.waitTick
  | .transfer => m.transferTick

def Att.stateTick (m : Att) : Att :=
  match m.state with
  | .wait => m.waitTick
  | .transfer => m.transferTick
  | .latch => m.latchTick

def Spi.stateTick (m : Spi) : Spi :=
  match m.state with
  | .wait => m.waitTick
  | .transfer => m.transferTick
  | .firstclk => m.firstclkTick
  | .csnHi => m.csnHiTick

/-- The state rule, or the reset in its place. -/
def I2c.stateNext (m : I2c) : I2c := if m.port.inp.rst then m.applyReset else m.stateTick

def Gen.stateNext (m : Gen) : Gen := if m.port.inp.rst then m.applyReset else m.stateTick

def Att.stateNext (m : Att) : Att := if m.port.inp.rst then m.applyReset else m.stateTick

def Spi.stateNext (m : Spi) : Spi := if m.port.inp.rst then m.applyReset else m.stateTick

/-- The tick's write. -/
def I2c.writeNext (m : I2c) : I2c :=
  match m.port.inp.cfgWr with
  | none => m
  | some w => if m.port.inp.rst then m else m.store w.index.toNat w.value

def Gen.writeNext (m : Gen) : Gen :=
  match m.port.inp.cfgWr with
  | none => m
  | some w => if m.port.inp.rst then m else m.store w.index.toNat w.value

def Att.writeNext (m : Att) : Att :=
  match m.port.inp.cfgWr with
  | none => m
  | some w => if m.port.inp.rst then m else m.store w.index.toNat w.value

def Spi.writeNext (m : Spi) : Spi :=
  match m.port.inp.cfgWr with
  | none => m
  | some w => if m.port.inp.rst then m else m.store w.index.toNat w.value

/-- The synchronizer, and the inputs of the next tick. -/
def I2c.endNext (m : I2c) : I2c :=
  { m with overlay := m.overlay.sync m.port.inp.pin, port := m.port.advance m.busy }

def Gen.endNext (m : Gen) : Gen := { m with port := m.port.advance m.busy }

def Att.endNext (m : Att) : Att := { m with port := m.port.advance m.busy }

def Spi.endNext (m : Spi) : Spi :=
  { m with overlay := m.overlay.sync m.port.inp.pin, port := m.port.advance m.busy }

/-- One whole tick of an instance whose accesses name registers. -/
def I2c.tickNext (m : I2c) : I2c :=
  ({ m with port := m.port.readNext m.regValue } : I2c).stateNext.writeNext.endNext

def Gen.tickNext (m : Gen) : Gen :=
  ({ m with port := m.port.readNext m.regValue } : Gen).stateNext.writeNext.endNext

def Att.tickNext (m : Att) : Att :=
  ({ m with port := m.port.readNext m.regValue } : Att).stateNext.writeNext.endNext

def Spi.tickNext (m : Spi) : Spi :=
  ({ m with port := m.port.readNext m.regValue } : Spi).stateNext.writeNext.endNext

/-- One whole tick of one instance of the machine. -/
def State.tickNext (s : State) : Variant → State
  | .i2c => s.withI2c s.i2c.tickNext
  | .gen => s.withGen s.gen.tickNext
  | .att => s.withAtt s.att.tickNext
  | .spi => s.withSpi s.spi.tickNext

/-- The machine after its read part. -/
def State.readNext (s : State) : Variant → State
  | .i2c => s.withI2c { s.i2c with port := s.i2c.port.readNext s.i2c.regValue }
  | .gen => s.withGen { s.gen with port := s.gen.port.readNext s.gen.regValue }
  | .att => s.withAtt { s.att with port := s.att.port.readNext s.att.regValue }
  | .spi => s.withSpi { s.spi with port := s.spi.port.readNext s.spi.regValue }

/-- The machine after its state part. -/
def State.stateNext (s : State) : Variant → State
  | .i2c => s.withI2c s.i2c.stateNext
  | .gen => s.withGen s.gen.stateNext
  | .att => s.withAtt s.att.stateNext
  | .spi => s.withSpi s.spi.stateNext

/-- The machine after its write part. -/
def State.writeNext (s : State) : Variant → State
  | .i2c => s.withI2c s.i2c.writeNext
  | .gen => s.withGen s.gen.writeNext
  | .att => s.withAtt s.att.writeNext
  | .spi => s.withSpi s.spi.writeNext

/-- The read part when the read, if any, names a register. -/
theorem readPart_of_named (v : Variant) (s : State)
    (h : ∀ r, (s.port v).inp.cfgRd = some r → (decodeCfg v r.toNat .read).isSome) :
    readPart v s = .next (s.readNext v) := by
  unfold readPart
  cases hr : (s.port v).inp.cfgRd with
  | none => cases v <;> simp_all [State.port, State.clearRdata, State.withPort, State.readNext, Port.readNext]
  | some r =>
    have hs := h r hr
    have hle := index_le_of_decodeCfg hs
    generalize hn : r.toNat = n at hs hle
    cases v <;> simp only [State.port] at hr hle
    all_goals
      interval_cases n <;>
        simp_all [runAccess, decodeCfg, exec, execCfgI2cEndCycle, execCfgI2cClkHigh, execCfgI2cData, execCfgI2cStart,
          execCfgI2cStopLow, execCfgI2cStopHigh, execCfgI2cBbEn, execCfgI2cBbOut, execCfgI2cSdaIn, execCfgGenEndCycle,
          execCfgGenClkHigh, execCfgGenData, execCfgAttEndCycle, execCfgAttClkHigh, execCfgAttData, execCfgAttLeHigh,
          execCfgAttLeLow, execCfgSpiEndCycle, execCfgSpiClkHigh, execCfgSpiData, execCfgSpiBbEn, execCfgSpiBbOut,
          execCfgSpiSdiIn, I2c.access, Gen.access, Att.access, Spi.access, State.readNext, Port.readNext,
          Port.returnData, I2c.regValue, Gen.regValue, Att.regValue, Spi.regValue]

/-- The state part always answers: every state register is fetched, and no state rule stops. -/
theorem statePart_eq (v : Variant) (s : State) : statePart v s = .next (s.stateNext v) := by
  unfold statePart
  cases v
  · by_cases hr : s.i2c.port.inp.rst = true
    · simp [State.port, hr, State.applyReset, State.stateNext, I2c.stateNext]
    · simp only [State.port, hr, State.stateNext, I2c.stateNext, I2c.stateTick, State.stateCode]
      cases s.i2c.state <;> rfl
  · by_cases hr : s.gen.port.inp.rst = true
    · simp [State.port, hr, State.applyReset, State.stateNext, Gen.stateNext]
    · simp only [State.port, hr, State.stateNext, Gen.stateNext, Gen.stateTick, State.stateCode]
      cases s.gen.state <;> rfl
  · by_cases hr : s.att.port.inp.rst = true
    · simp [State.port, hr, State.applyReset, State.stateNext, Att.stateNext]
    · simp only [State.port, hr, State.stateNext, Att.stateNext, Att.stateTick, State.stateCode]
      cases s.att.state <;> rfl
  · by_cases hr : s.spi.port.inp.rst = true
    · simp [State.port, hr, State.applyReset, State.stateNext, Spi.stateNext]
    · simp only [State.port, hr, State.stateNext, Spi.stateNext, Spi.stateTick, State.stateCode]
      cases s.spi.state <;> rfl

/-- The write part when the write, if any, names a register. -/
theorem writePart_of_named (v : Variant) (s : State)
    (h : ∀ w, (s.port v).inp.cfgWr = some w → (decodeCfg v w.index.toNat (.write w.value)).isSome) :
    writePart v s = .next (s.writeNext v) := by
  unfold writePart
  cases hr : (s.port v).inp.cfgWr with
  | none =>
    cases v <;>
      simp_all [State.port, State.writeNext, I2c.writeNext, Gen.writeNext, Att.writeNext, Spi.writeNext, State.withI2c,
        State.withGen, State.withAtt, State.withSpi]
  | some w =>
    have hs := h w hr
    have hle := index_le_of_decodeCfg hs
    generalize hn : w.index.toNat = n at hs hle
    cases v <;> simp only [State.port] at hr hle
    all_goals
      interval_cases n <;>
        simp_all [runAccess, decodeCfg, exec, execCfgI2cEndCycle, execCfgI2cClkHigh, execCfgI2cData, execCfgI2cStart,
          execCfgI2cStopLow, execCfgI2cStopHigh, execCfgI2cBbEn, execCfgI2cBbOut, execCfgI2cSdaIn, execCfgGenEndCycle,
          execCfgGenClkHigh, execCfgGenData, execCfgAttEndCycle, execCfgAttClkHigh, execCfgAttData, execCfgAttLeHigh,
          execCfgAttLeLow, execCfgSpiEndCycle, execCfgSpiClkHigh, execCfgSpiData, execCfgSpiBbEn, execCfgSpiBbOut,
          execCfgSpiSdiIn, I2c.access, Gen.access, Att.access, Spi.access, State.writeNext, I2c.writeNext,
          Gen.writeNext, Att.writeNext, Spi.writeNext, I2c.store, Gen.store, Att.store, Spi.store]

@[simp] theorem I2c.stateTick_port (m : I2c) : m.stateTick.port = m.port := by unfold I2c.stateTick; split <;> rfl

@[simp] theorem Gen.stateTick_port (m : Gen) : m.stateTick.port = m.port := by unfold Gen.stateTick; split <;> rfl

@[simp] theorem Att.stateTick_port (m : Att) : m.stateTick.port = m.port := by unfold Att.stateTick; split <;> rfl

@[simp] theorem Spi.stateTick_port (m : Spi) : m.stateTick.port = m.port := by unfold Spi.stateTick; split <;> rfl

@[simp] theorem I2c.stateNext_port (m : I2c) : m.stateNext.port = m.port := by unfold I2c.stateNext; split <;> simp

@[simp] theorem Gen.stateNext_port (m : Gen) : m.stateNext.port = m.port := by unfold Gen.stateNext; split <;> simp

@[simp] theorem Att.stateNext_port (m : Att) : m.stateNext.port = m.port := by unfold Att.stateNext; split <;> simp

@[simp] theorem Spi.stateNext_port (m : Spi) : m.stateNext.port = m.port := by unfold Spi.stateNext; split <;> simp

/-- The inputs of the tick stay in front of the instance until its end. -/
theorem State.inp_stateNext (s : State) (v : Variant) :
    (((s.readNext v).stateNext v).port v).inp = (s.port v).inp := by
  cases v <;> simp [State.port, State.readNext, State.stateNext, Port.readNext]

/-- A tick of one instance whose accesses name registers. -/
theorem tickInstance_of_named (v : Variant) (s : State) (h : (s.port v).inp.NamesRegisters v) :
    tickInstance v s = .next (s.tickNext v) := by
  unfold tickInstance
  rw [readPart_of_named v s h.1, andThen_next, statePart_eq, andThen_next,
    writePart_of_named v _ (by rw [State.inp_stateNext]; exact h.2), andThen_next]
  cases v <;> rfl

/-- A tick of one instance with an access that names no register (20_memory.md R73, log 10). -/
theorem tickInstance_of_not_named (v : Variant) (s : State) (h : ¬ (s.port v).inp.NamesRegisters v) :
    tickInstance v s = .refused .emptyRegisterIndex := by
  unfold tickInstance
  by_cases hr : ∀ r, (s.port v).inp.cfgRd = some r → (decodeCfg v r.toNat .read).isSome
  · rw [readPart_of_named v s hr, andThen_next, statePart_eq, andThen_next]
    have hw : ∃ w, (s.port v).inp.cfgWr = some w ∧ decodeCfg v w.index.toNat (.write w.value) = none := by
      by_contra hc
      refine h ⟨hr, fun w hw => ?_⟩
      by_contra hn
      exact hc ⟨w, hw, by simpa using hn⟩
    obtain ⟨w, hw, hn⟩ := hw
    simp [writePart, State.inp_stateNext, hw, hn, runAccess]
  · have hr' : ∃ r, (s.port v).inp.cfgRd = some r ∧ decodeCfg v r.toNat .read = none := by
      by_contra hc
      refine hr fun r hrd => ?_
      by_contra hn
      exact hc ⟨r, hrd, by simpa using hn⟩
    obtain ⟨r, hrd, hn⟩ := hr'
    simp [readPart, hrd, hn, runAccess]

/-- The machine after a tick in which every access names a register. -/
def State.next (s : State) : State :=
  { i2c := s.i2c.tickNext, gen := s.gen.tickNext, att := s.att.tickNext, spi := s.spi.tickNext }

/-- A step whose accesses all name registers. -/
theorem step_of_named (s : State) (h : s.AccessesNamed) : step s = .next s.next := by
  unfold step
  rw [tickInstance_of_named .i2c s (h .i2c), andThen_next, tickInstance_of_named .gen (s.tickNext .i2c) (h .gen), andThen_next,
    tickInstance_of_named .att ((s.tickNext .i2c).tickNext .gen) (h .att), andThen_next,
    tickInstance_of_named .spi (((s.tickNext .i2c).tickNext .gen).tickNext .att) (h .spi)]
  rfl

/-- A step with an access that names no register is refused. -/
theorem step_of_not_named (s : State) (h : ¬ s.AccessesNamed) : step s = .refused .emptyRegisterIndex := by
  unfold step
  by_cases h1 : (s.port .i2c).inp.NamesRegisters .i2c
  swap
  · rw [tickInstance_of_not_named _ _ h1, andThen_refused]
  rw [tickInstance_of_named _ _ h1, andThen_next]
  by_cases h2 : (s.port .gen).inp.NamesRegisters .gen
  swap
  · rw [tickInstance_of_not_named .gen (s.tickNext .i2c) h2, andThen_refused]
  rw [tickInstance_of_named .gen (s.tickNext .i2c) h2, andThen_next]
  by_cases h3 : (s.port .att).inp.NamesRegisters .att
  swap
  · rw [tickInstance_of_not_named .att ((s.tickNext .i2c).tickNext .gen) h3, andThen_refused]
  rw [tickInstance_of_named .att ((s.tickNext .i2c).tickNext .gen) h3, andThen_next]
  by_cases h4 : (s.port .spi).inp.NamesRegisters .spi
  swap
  · rw [tickInstance_of_not_named .spi (((s.tickNext .i2c).tickNext .gen).tickNext .att) h4]
  exact absurd (fun v => by cases v <;> assumption) h

/-- All a step can do when it answers a next state. -/
theorem step_eq_next {s t : State} : step s = .next t ↔ s.AccessesNamed ∧ t = s.next := by
  by_cases h : s.AccessesNamed
  · rw [step_of_named s h]
    simp [h, eq_comm]
  · rw [step_of_not_named s h]
    simp [h]

end Sys2Proof.Machine
end

