-- ==== Sys2Proof/Tests/Slice0.lean ====
section
/-! SUPPORT. Tests/Slice0.lean: the well-formedness smoke test, every row's decoding from its code in the tables of 30_encoding.md,
one-tick tests of the cases that the named rows of 95_test_vectors.md show (at the sample's timing), and a witness for every obligation that has hypotheses. -/

namespace Sys2Proof.Tests

open Sys2Proof.Machine

-- Well-formedness: the one check, on a written value (log 8).

theorem test_wellFormed_refuses_wide_value : (Instr.cfgGenData (.write (2 ^ 64))).wellFormed = false := by decide

theorem test_wellFormed_accepts_last_value : (Instr.cfgGenData (.write (2 ^ 64 - 1))).wellFormed = true := by decide

-- Decoding: each code written out in the width of its table (30_encoding.md R95, R100), after it the context byte (log 7).

theorem test_decode_i2c_states :
    decode [0b000, 1] = .ok (.i2cWait, []) ∧ decode [0b001, 1] = .ok (.i2cStart, []) ∧
      decode [0b010, 1] = .ok (.i2cTransfer, []) ∧ decode [0b011, 1] = .ok (.i2cAck, []) ∧
      decode [0b100, 1] = .ok (.i2cStop, []) := by decide

theorem test_decode_gen_states :
    decode [0b0, 2] = .ok (.genWait, []) ∧ decode [0b1, 2] = .ok (.genTransfer, []) := by decide

theorem test_decode_att_states :
    decode [0b00, 3] = .ok (.attWait, []) ∧ decode [0b01, 3] = .ok (.attTransfer, []) ∧
      decode [0b10, 3] = .ok (.attLatch, []) := by decide

theorem test_decode_spi_states :
    decode [0b00, 4] = .ok (.spiWait, []) ∧ decode [0b01, 4] = .ok (.spiTransfer, []) ∧
      decode [0b10, 4] = .ok (.spiFirstclk, []) ∧ decode [0b11, 4] = .ok (.spiCsnHi, []) := by decide

theorem test_decode_i2c_registers :
    decode [0b0000, 5, 0] = .ok (.cfgI2cEndCycle .read, []) ∧ decode [0b0001, 5, 0] = .ok (.cfgI2cClkHigh .read, []) ∧
      decode [0b0010, 5, 0] = .ok (.cfgI2cData .read, []) ∧ decode [0b0011, 5, 0] = .ok (.cfgI2cStart .read, []) ∧
      decode [0b0100, 5, 0] = .ok (.cfgI2cStopLow .read, []) ∧ decode [0b0101, 5, 0] = .ok (.cfgI2cStopHigh .read, []) ∧
      decode [0b0110, 5, 0] = .ok (.cfgI2cBbEn .read, []) ∧ decode [0b0111, 5, 0] = .ok (.cfgI2cBbOut .read, []) ∧
      decode [0b1000, 5, 0] = .ok (.cfgI2cSdaIn .read, []) := by decide

theorem test_decode_gen_registers :
    decode [0b0000, 6, 0] = .ok (.cfgGenEndCycle .read, []) ∧ decode [0b0001, 6, 0] = .ok (.cfgGenClkHigh .read, []) ∧
      decode [0b0010, 6, 0] = .ok (.cfgGenData .read, []) := by decide

theorem test_decode_att_registers :
    decode [0b0000, 7, 0] = .ok (.cfgAttEndCycle .read, []) ∧ decode [0b0001, 7, 0] = .ok (.cfgAttClkHigh .read, []) ∧
      decode [0b0010, 7, 0] = .ok (.cfgAttData .read, []) ∧ decode [0b0011, 7, 0] = .ok (.cfgAttLeHigh .read, []) ∧
      decode [0b0100, 7, 0] = .ok (.cfgAttLeLow .read, []) := by decide

theorem test_decode_spi_registers :
    decode [0b0000, 8, 0] = .ok (.cfgSpiEndCycle .read, []) ∧ decode [0b0001, 8, 0] = .ok (.cfgSpiClkHigh .read, []) ∧
      decode [0b0010, 8, 0] = .ok (.cfgSpiData .read, []) ∧ decode [0b0011, 8, 0] = .ok (.cfgSpiBbEn .read, []) ∧
      decode [0b0100, 8, 0] = .ok (.cfgSpiBbOut .read, []) ∧ decode [0b0101, 8, 0] = .ok (.cfgSpiSdiIn .read, []) := by decide

/-- The value of a write, lowest byte first: 0x0201. -/
theorem test_decode_write :
    decode [0b0011, 8, 1, 0x01, 0x02, 0, 0, 0, 0, 0, 0, 0xFF] = .ok (.cfgSpiBbEn (.write 0x0201), [0xFF]) := by decide

/-- The unused codes of 30_encoding.md R97 and the first empty index of each column of R100. -/
theorem test_decode_reserved :
    decode [0b101, 1] = .error .reservedCode ∧ decode [0b110, 1] = .error .reservedCode ∧
      decode [0b111, 1] = .error .reservedCode ∧ decode [0b11, 3] = .error .reservedCode ∧
      decode [9, 5, 0] = .error .reservedCode ∧ decode [3, 6, 0] = .error .reservedCode ∧
      decode [5, 7, 0] = .error .reservedCode ∧ decode [6, 8, 0] = .error .reservedCode := by decide

theorem test_decode_refusals :
    decode [] = .error .truncated ∧ decode [0] = .error .truncated ∧ decode [0, 5] = .error .truncated ∧
      decode [0, 5, 1, 0] = .error .truncated ∧ decode [0, 9] = .error .badContext ∧
      decode [0, 5, 2] = .error .badAccess := by decide

/-- A table word carries no context: the first row of the table with its code (log 7). -/
theorem test_decodeTableWord :
    decodeTableWord 8 0 = some .i2cWait ∧ decodeTableWord 8 4 = some .i2cStop ∧
      decodeTableWord 8 5 = some (.cfgI2cStopHigh .read) ∧ decodeTableWord 8 8 = some (.cfgI2cSdaIn .read) ∧
      decodeTableWord 8 9 = none := by decide

theorem test_table_has_37_rows : tableOrder.length = 37 := by decide

-- A small machine: 4-bit counters, 8-bit payloads, the lines where the phase invariants of Safety.lean put them.

def sampleParams : Config.Params where
  i2c := { cycleBits := 4, width := 8, tEndCycle := 7, tClkHigh := 6, tData := 5, tStart := 4, tStopLow := 3, tStopHigh := 2,
           sync1 := true, sync2 := false }
  gen := { cycleBits := 4, width := 8, tEndCycle := 7, tClkHigh := 6, tData := 5 }
  att := { cycleBits := 4, width := 8, tClkHigh := 6, tData := 5 }
  spi := { cycleBits := 4, width := 8, tEndCycle := 7, tClkHigh := 6, tData := 5, sync1 := true, sync2 := false }

/-- A valid and well-timed configuration: `end_cycle` = 5, `clk_high` = 3, `data` = 1. -/
def sampleBase (cnt rem : Nat) : Base :=
  { cnt := cnt, endCycle := 5, clkHigh := 3, data := 1, sr := 0x65, rem := rem, faultUnderflow := false }

def samplePort (inp : TickInput) : Port := { inp := inp, script := [], line := true, rdata := none }

def sampleI2c (st : I2cState) (cnt rem : Nat) (inp : TickInput) : I2c :=
  { par := sampleParams.i2c, state := st, base := sampleBase cnt rem, start := 2, stopLow := 2, stopHigh := 4,
    scl := st == .wait || st == .start || decide (3 < cnt),
    sdaO := st == .wait || (st == .start && decide (cnt ≤ 2)) || (st == .stop && decide (4 < cnt)),
    overlay := { bbEn := false, bbOut := 0b111, sync1 := true, sync2 := true }, port := samplePort inp }

def sampleGen (st : GenState) (cnt rem : Nat) (inp : TickInput) : Gen :=
  { par := sampleParams.gen, state := st,
    serial := { base := sampleBase cnt rem, clk := st == .transfer && decide (3 < cnt), sdo := false },
    port := samplePort inp }

def sampleAtt (st : AttState) (cnt rem : Nat) (inp : TickInput) : Att :=
  { par := sampleParams.att, state := st,
    serial := { base := sampleBase cnt rem, clk := st == .transfer && decide (3 < cnt), sdo := false },
    leHigh := 2, leLow := 5, lcnt := cnt, le := st == .latch && decide (2 < cnt), port := samplePort inp }

def sampleSpi (st : SpiState) (cnt rem : Nat) (inp : TickInput) : Spi :=
  { par := sampleParams.spi, state := st,
    serial := { base := sampleBase cnt rem, clk := st == .wait || st == .firstclk || decide (3 < cnt), sdo := false },
    csn := st == .wait || st == .firstclk || (st == .transfer && rem == 8) || (st == .csnHi && decide (1 < cnt)),
    overlay := { bbEn := false, bbOut := 0b101, sync1 := true, sync2 := true }, port := samplePort inp }

/-- The four instances with the same counter, `rem` and inputs. -/
def sample (i : I2cState) (g : GenState) (a : AttState) (x : SpiState) (cnt rem : Nat) (inp : TickInput) : State :=
  { i2c := sampleI2c i cnt rem inp, gen := sampleGen g cnt rem inp, att := sampleAtt a cnt rem inp,
    spi := sampleSpi x cnt rem inp }

def quiet : TickInput := TickInput.quiet true

/-- Inputs that make a request. -/
def request : TickInput := { quiet with dataReady := true, payload := 0x65 }

/-- Inputs of a reset tick. -/
def resetting : TickInput := { quiet with rst := true }

/-- Inputs that write `v` to register `k`. -/
def writing (k : RegIndex) (v : Nat) : TickInput := { quiet with cfgWr := some { index := k, value := v } }

/-- Inputs that read register `k`. -/
def reading (k : RegIndex) : TickInput := { quiet with cfgRd := some k }

/-- The four instances busy in the middle of a transaction. -/
def busyState : State := sample .transfer .transfer .transfer .transfer 1 8 quiet

/-- The four instances idle. -/
def idleState (inp : TickInput) : State := sample .wait .wait .wait .wait 0 8 inp

/-- `busyState` with other inputs in front of one instance. -/
def busyWith (v : Variant) (inp : TickInput) : State := busyState.withPort v (samplePort inp)

/-- The next state, if there is one. -/
def nextOf : Result → Option State
  | .next s => some s
  | _ => none

-- One tick of each instruction.

/-- P2 tick 7: the request is taken, `sr` is the payload. -/
theorem test_i2cWait_accepts :
    (nextOf (exec .i2cWait (idleState request))).map
      (fun t => (t.i2c.state, t.i2c.base.sr, t.i2c.base.rem, t.i2c.base.cnt, t.i2c.scl, t.i2c.sdaO)) =
      some (.start, 0x65, 8, 0, true, true) := by decide

/-- P2 tick 9: the start event pulls the data line low under the high clock. -/
theorem test_i2cStart_event :
    (nextOf (exec .i2cStart (sample .start .wait .wait .wait 2 8 quiet))).map
      (fun t => (t.i2c.state, t.i2c.scl, t.i2c.sdaO, t.i2c.base.cnt)) = some (.start, true, false, 3) := by decide

/-- P2 tick 11: the end of the cycle. -/
theorem test_i2cStart_ends :
    (nextOf (exec .i2cStart (sample .start .wait .wait .wait 5 8 quiet))).map
      (fun t => (t.i2c.state, t.i2c.scl, t.i2c.base.cnt)) = some (.transfer, false, 0) := by decide

/-- P2 tick 12: 0x65 sends its bit 0 first. -/
theorem test_i2cTransfer_shifts :
    (nextOf (exec .i2cTransfer (sample .transfer .wait .wait .wait 1 8 quiet))).map
      (fun t => (t.i2c.state, t.i2c.sdaO, t.i2c.base.sr, t.i2c.base.rem)) = some (.transfer, true, 0x32, 7) := by decide

/-- P2 before tick 44: eight bits are out, and the acknowledge cycle begins. -/
theorem test_i2cTransfer_to_ack :
    (nextOf (exec .i2cTransfer (sample .transfer .wait .wait .wait 5 0 quiet))).map
      (fun t => (t.i2c.state, t.i2c.scl, t.i2c.sdaOe)) = some (.ack, false, false) := by decide

/-- P2 tick 47: nothing remains. -/
theorem test_i2cAck_to_stop :
    (nextOf (exec .i2cAck (sample .ack .wait .wait .wait 5 0 quiet))).map (fun t => (t.i2c.state, t.i2c.scl)) =
      some (.stop, false) := by decide

/-- V-I2C-2: a byte remains. -/
theorem test_i2cAck_to_transfer :
    (nextOf (exec .i2cAck (sample .ack .wait .wait .wait 5 8 quiet))).map (fun t => t.i2c.state) =
      some .transfer := by decide

/-- P2 tick 50: the stop condition. -/
theorem test_i2cStop_event :
    (nextOf (exec .i2cStop (sample .stop .wait .wait .wait 4 0 quiet))).map
      (fun t => (t.i2c.state, t.i2c.scl, t.i2c.sdaO)) = some (.stop, true, true) := by decide

/-- P2 tick 51: the clock is not lowered. -/
theorem test_i2cStop_ends :
    (nextOf (exec .i2cStop (sample .stop .wait .wait .wait 5 0 quiet))).map
      (fun t => (t.i2c.state, t.i2c.scl, t.i2c.sdaO)) = some (.wait, true, true) := by decide

/-- V-TB-1 ticks 0 and 1. -/
theorem test_genWait :
    (nextOf (exec .genWait (idleState quiet))).map (fun t => t.gen.state) = some .wait ∧
      (nextOf (exec .genWait (idleState request))).map (fun t => (t.gen.state, t.gen.serial.base.sr)) =
        some (.transfer, 0x65) := by decide

/-- V-TB-1 tick 17: the last bit's cycle ends. -/
theorem test_genTransfer_ends :
    (nextOf (exec .genTransfer (sample .wait .transfer .wait .wait 5 0 quiet))).map
      (fun t => (t.gen.state, t.gen.serial.clk, t.gen.serial.base.cnt)) = some (.wait, false, 0) := by decide

/-- V-TB-2 tick 4: the shift at `rem` = 0 sets the flag, and the tick goes on. -/
theorem test_genTransfer_underflow :
    (nextOf (exec .genTransfer (sample .wait .transfer .wait .wait 1 0 quiet))).map
      (fun t => (t.gen.serial.base.faultUnderflow, t.gen.serial.base.rem, t.gen.serial.base.cnt)) =
      some (true, 0, 2) := by decide

theorem test_attWait_accepts :
    (nextOf (exec .attWait (idleState request))).map (fun t => (t.att.state, t.att.lcnt, t.att.serial.base.sr)) =
      some (.transfer, 0, 0x65) := by decide

/-- P1 tick 74: the payload is out. -/
theorem test_attTransfer_to_latch :
    (nextOf (exec .attTransfer (sample .wait .wait .transfer .wait 5 0 quiet))).map (fun t => (t.att.state, t.att.lcnt)) =
      some (.latch, 0) := by decide

/-- P1 tick 80: `le` rises after the `le_high` event. -/
theorem test_attLatch_raises :
    (nextOf (exec .attLatch (sample .wait .wait .latch .wait 2 0 quiet))).map
      (fun t => (t.att.state, t.att.le, t.att.lcnt)) = some (.latch, true, 3) := by decide

/-- P1 tick 90: `le_low` ends the state. -/
theorem test_attLatch_ends :
    (nextOf (exec .attLatch (sample .wait .wait .latch .wait 5 0 quiet))).map (fun t => (t.att.state, t.att.le)) =
      some (.wait, false) := by decide

/-- P3 tick 3. -/
theorem test_spiWait_accepts :
    (nextOf (exec .spiWait (idleState request))).map (fun t => (t.spi.state, t.spi.serial.clk, t.spi.csn)) =
      some (.firstclk, true, true) := by decide

/-- P3 tick 7. -/
theorem test_spiFirstclk_ends :
    (nextOf (exec .spiFirstclk (sample .wait .wait .wait .firstclk 5 8 quiet))).map
      (fun t => (t.spi.state, t.spi.serial.clk, t.spi.csn)) = some (.transfer, false, true) := by decide

/-- P3 tick 8: the first data event selects the chip and sends bit 0. -/
theorem test_spiTransfer_selects :
    (nextOf (exec .spiTransfer (sample .wait .wait .wait .transfer 1 8 quiet))).map
      (fun t => (t.spi.state, t.spi.csn, t.spi.serial.sdo, t.spi.serial.base.rem)) =
      some (.transfer, false, true, 7) := by decide

/-- P3 tick 24: the data event deselects the chip. -/
theorem test_spiCsnHi_deselects :
    (nextOf (exec .spiCsnHi (sample .wait .wait .wait .csnHi 1 0 quiet))).map (fun t => (t.spi.state, t.spi.csn)) =
      some (.csnHi, true) := by decide

/-- P3 tick 27: the clock is not lowered. -/
theorem test_spiCsnHi_ends :
    (nextOf (exec .spiCsnHi (sample .wait .wait .wait .csnHi 5 0 quiet))).map (fun t => (t.spi.state, t.spi.serial.clk)) =
      some (.wait, true) := by decide

/-- V-TB-4: a write keeps the low bits of the value; here 9 + 16 in 4 bits is 9. -/
theorem test_write_truncates :
    (nextOf (exec (.cfgI2cEndCycle (.write 25)) busyState)).map (fun t => t.i2c.base.endCycle) = some 9 ∧
      (nextOf (exec (.cfgI2cClkHigh (.write 25)) busyState)).map (fun t => t.i2c.base.clkHigh) = some 9 ∧
      (nextOf (exec (.cfgI2cData (.write 25)) busyState)).map (fun t => t.i2c.base.data) = some 9 ∧
      (nextOf (exec (.cfgI2cStart (.write 25)) busyState)).map (fun t => t.i2c.start) = some 9 ∧
      (nextOf (exec (.cfgI2cStopLow (.write 25)) busyState)).map (fun t => t.i2c.stopLow) = some 9 ∧
      (nextOf (exec (.cfgI2cStopHigh (.write 25)) busyState)).map (fun t => t.i2c.stopHigh) = some 9 ∧
      (nextOf (exec (.cfgGenEndCycle (.write 25)) busyState)).map (fun t => t.gen.serial.base.endCycle) = some 9 ∧
      (nextOf (exec (.cfgGenClkHigh (.write 25)) busyState)).map (fun t => t.gen.serial.base.clkHigh) = some 9 ∧
      (nextOf (exec (.cfgGenData (.write 25)) busyState)).map (fun t => t.gen.serial.base.data) = some 9 ∧
      (nextOf (exec (.cfgAttEndCycle (.write 25)) busyState)).map (fun t => t.att.serial.base.endCycle) = some 9 ∧
      (nextOf (exec (.cfgAttClkHigh (.write 25)) busyState)).map (fun t => t.att.serial.base.clkHigh) = some 9 ∧
      (nextOf (exec (.cfgAttData (.write 25)) busyState)).map (fun t => t.att.serial.base.data) = some 9 ∧
      (nextOf (exec (.cfgAttLeHigh (.write 25)) busyState)).map (fun t => t.att.leHigh) = some 9 ∧
      (nextOf (exec (.cfgAttLeLow (.write 25)) busyState)).map (fun t => t.att.leLow) = some 9 ∧
      (nextOf (exec (.cfgSpiEndCycle (.write 25)) busyState)).map (fun t => t.spi.serial.base.endCycle) = some 9 ∧
      (nextOf (exec (.cfgSpiClkHigh (.write 25)) busyState)).map (fun t => t.spi.serial.base.clkHigh) = some 9 ∧
      (nextOf (exec (.cfgSpiData (.write 25)) busyState)).map (fun t => t.spi.serial.base.data) = some 9 := by decide

/-- 30_encoding.md R106: `bb_en` keeps bit 0 and `bb_out` bits 2 to 0 of the value. -/
theorem test_write_bitbang :
    (nextOf (exec (.cfgI2cBbEn (.write 3)) busyState)).map (fun t => t.i2c.overlay.bbEn) = some true ∧
      (nextOf (exec (.cfgI2cBbOut (.write 10)) busyState)).map (fun t => t.i2c.overlay.bbOut) = some 0b010 ∧
      (nextOf (exec (.cfgSpiBbEn (.write 2)) busyState)).map (fun t => t.spi.overlay.bbEn) = some false ∧
      (nextOf (exec (.cfgSpiBbOut (.write 9)) busyState)).map (fun t => t.spi.overlay.bbOut) = some 0b001 := by decide

/-- 20_memory.md R76: a write to a read-back register changes nothing. -/
theorem test_write_readback :
    (nextOf (exec (.cfgI2cSdaIn (.write 0)) busyState)).map (fun t => t.i2c.overlay.sync2) = some true ∧
      (nextOf (exec (.cfgSpiSdiIn (.write 0)) busyState)).map (fun t => t.spi.overlay.sync2) = some true := by decide

/-- P2 ticks 6 and 52, P3 tick 29: what a read returns. -/
theorem test_read :
    (nextOf (exec (.cfgI2cEndCycle .read) busyState)).map (fun t => t.i2c.port.rdata) = some (some 5) ∧
      (nextOf (exec (.cfgI2cSdaIn .read) busyState)).map (fun t => t.i2c.port.rdata) = some (some 1) ∧
      (nextOf (exec (.cfgGenData .read) busyState)).map (fun t => t.gen.port.rdata) = some (some 1) ∧
      (nextOf (exec (.cfgAttLeLow .read) busyState)).map (fun t => t.att.port.rdata) = some (some 5) ∧
      (nextOf (exec (.cfgSpiBbOut .read) busyState)).map (fun t => t.spi.port.rdata) = some (some 5) := by decide

/-- V-RST-2. -/
theorem test_reset_lines :
    State.reset.i2c.pads = { scl := true, sdaO := true, sdaOe := true } ∧
      State.reset.spi.pads = { clk := true, sdo := false, csn := true } ∧
      State.reset.att.serial.base.endCycle = 8 ∧ State.reset.att.leHigh = 5 ∧ State.reset.att.leLow = 15 := by decide

/-- The word of a table row stands where the step fetches it: I2C.STOP in the state register, I2C.CFG8 on the port. -/
theorem test_withFetchWord :
    (State.reset.withFetchWord 8 4).i2c.state = .stop ∧
      (nextOf (step (State.reset.withFetchWord 8 8))).map (fun t => t.i2c.port.rdata) = some (some 0) ∧
      nextOf (step (State.reset.withFetchWord 8 9)) = none := by decide

/-- A script from reset: P2's first write, at the reference parameters. -/
theorem test_loadScript :
    (nextOf (step (State.reset.loadScript .i2c [.write 0 3, .read 0]))).map
      (fun t => (t.i2c.base.endCycle, t.i2c.port.inp.cfgRd)) = some (3, some 0) := by decide

-- Helpers of the witnesses.

/-- Every access of the inputs names a register, as a check that evaluates. -/
def names (v : Variant) (inp : TickInput) : Bool :=
  (inp.cfgRd.all fun r => (decodeCfg v r.toNat .read).isSome) &&
    inp.cfgWr.all fun w => (decodeCfg v w.index.toNat (.write w.value)).isSome

theorem names_spec {v : Variant} {inp : TickInput} (h : names v inp = true) : inp.NamesRegisters v := by
  obtain ⟨h1, h2⟩ := Bool.and_eq_true_iff.1 h
  exact ⟨fun r hr => by simpa [hr] using h1, fun w hw => by simpa [hw] using h2⟩

/-- The step of a concrete state whose accesses name registers. -/
theorem step_of_names (s : State)
    (h : (names .i2c s.i2c.port.inp && names .gen s.gen.port.inp && names .att s.att.port.inp &&
      names .spi s.spi.port.inp) = true) : step s = .next s.next := by
  simp only [Bool.and_eq_true] at h
  obtain ⟨⟨⟨h1, h2⟩, h3⟩, h4⟩ := h
  exact step_of_named s fun v => by
    cases v
    · exact names_spec h1
    · exact names_spec h2
    · exact names_spec h3
    · exact names_spec h4

theorem base_inRange (cnt rem : Nat) (hc : cnt < 16) (hr : rem ≤ 8) (d : Config.Dims) (h4 : d.cycleBits = 4)
    (h8 : d.width = 8) : (sampleBase cnt rem).InRange d := by
  obtain ⟨c, w⟩ := d
  simp only at h4 h8
  subst h4 h8
  exact ⟨hc, (by decide : 5 < 2 ^ 4), (by decide : 3 < 2 ^ 4), (by decide : 1 < 2 ^ 4), (by decide : 0x65 < 2 ^ 8), hr⟩

theorem sample_inRange (i : I2cState) (g : GenState) (a : AttState) (x : SpiState) (cnt rem : Nat) (inp : TickInput)
    (hc : cnt < 16) (hr : rem ≤ 8) : (sample i g a x cnt rem inp).InRange :=
  ⟨⟨(by decide : sampleParams.i2c.Legal), base_inRange cnt rem hc hr _ rfl rfl, (by decide : 2 < 2 ^ 4),
      (by decide : 2 < 2 ^ 4), (by decide : 4 < 2 ^ 4)⟩,
    ⟨(by decide : sampleParams.gen.Legal), base_inRange cnt rem hc hr _ rfl rfl⟩,
    ⟨(by decide : sampleParams.att.Legal), base_inRange cnt rem hc hr _ rfl rfl, (by decide : 2 < 2 ^ 4),
      (by decide : 5 < 2 ^ 4), hc⟩,
    ⟨(by decide : sampleParams.spi.Legal), base_inRange cnt rem hc hr _ rfl rfl⟩⟩

/-- The sample's timing is well-timed. -/
theorem sampleI2c_wellTimed (i : I2cState) (cnt rem : Nat) (inp : TickInput) : (sampleI2c i cnt rem inp).WellTimed :=
  ⟨⟨(by decide : 3 < 5), (by decide : 1 < 5), (by decide : 2 < 5), (by decide : 2 < 5), (by decide : 4 < 5)⟩,
    (by decide : 1 < 3), (by decide : 2 < 3), (by decide : 3 < 4)⟩

theorem sampleSerial_wellTimed (cnt rem : Nat) (clk sdo : Bool) :
    ({ base := sampleBase cnt rem, clk := clk, sdo := sdo } : Serial).WellTimed :=
  ⟨⟨(by decide : 3 < 5), (by decide : 1 < 5)⟩, (by decide : 1 < 3)⟩

/-- Nothing is left for the host to do: no script, and inputs without an access or a reset. -/
def Silent (p : Port) : Prop :=
  p.script = [] ∧ p.inp.cfgRd = none ∧ p.inp.cfgWr = none ∧ p.inp.rst = false

theorem silent_advance {p : Port} (busy : Bool) (h : p.script = []) : Silent (p.advance busy) := by
  simp [Silent, Port.advance, h, present, TickInput.quiet]

@[simp] theorem i2c_store_port (m : I2c) (n v : Nat) : (m.store n v).port = m.port := by unfold I2c.store; split <;> rfl

@[simp] theorem gen_store_port (m : Gen) (n v : Nat) : (m.store n v).port = m.port := by unfold Gen.store; split <;> rfl

@[simp] theorem att_store_port (m : Att) (n v : Nat) : (m.store n v).port = m.port := by unfold Att.store; split <;> rfl

@[simp] theorem spi_store_port (m : Spi) (n v : Nat) : (m.store n v).port = m.port := by unfold Spi.store; split <;> rfl

@[simp] theorem i2c_writeNext_port (m : I2c) : m.writeNext.port = m.port := by
  unfold I2c.writeNext; split <;> (try split) <;> simp

@[simp] theorem gen_writeNext_port (m : Gen) : m.writeNext.port = m.port := by
  unfold Gen.writeNext; split <;> (try split) <;> simp

@[simp] theorem att_writeNext_port (m : Att) : m.writeNext.port = m.port := by
  unfold Att.writeNext; split <;> (try split) <;> simp

@[simp] theorem spi_writeNext_port (m : Spi) : m.writeNext.port = m.port := by
  unfold Spi.writeNext; split <;> (try split) <;> simp

theorem silent_next {s : State} (h : ∀ v, Silent (s.port v)) (v : Variant) : Silent (s.next.port v) := by
  cases v
  · exact silent_advance _ (by simpa [Port.readNext, State.port] using (h .i2c).1)
  · exact silent_advance _ (by simpa [Port.readNext, State.port] using (h .gen).1)
  · exact silent_advance _ (by simpa [Port.readNext, State.port] using (h .att).1)
  · exact silent_advance _ (by simpa [Port.readNext, State.port] using (h .spi).1)

/-- The run of a machine with silent hosts. -/
def run (s : State) (k : Nat) : State := State.next^[k] s

theorem run_silent {s : State} (h : ∀ v, Silent (s.port v)) (k : Nat) : ∀ v, Silent ((run s k).port v) := by
  induction k with
  | zero => exact h
  | succ k ih =>
    unfold run at *
    rw [Function.iterate_succ_apply']
    exact silent_next ih

theorem run_isRun {s : State} (h : ∀ v, Silent (s.port v)) (n : Nat) : IsRun (run s) n := by
  intro k _
  have hk := run_silent h k
  have : (run s k).AccessesNamed := fun v =>
    ⟨fun r hr => by simp [(hk v).2.1] at hr, fun w hw => by simp [(hk v).2.2.1] at hw⟩
  rw [step_of_named _ this]
  unfold run
  rw [Function.iterate_succ_apply']

theorem silent_noReset {p : Port} (h : Silent p) : p.inp.NoReset := h.2.2.2

theorem silent_configHeld {p : Port} (h : Silent p) (v : Variant) : p.inp.ConfigHeld v := fun w hw => by
  simp [h.2.2.1] at hw

theorem idle_silent : ∀ v, Silent ((idleState request).port v) := fun v => by cases v <;> exact ⟨rfl, rfl, rfl, rfl⟩

-- The witnesses, one for each obligation with hypotheses.

/-- The second parameters are the least legal ones. -/
theorem test_witness_PowerUpInRange :
    sampleParams.Legal ∧
      Config.Params.Legal
        { i2c := { cycleBits := 1, width := 1, tEndCycle := 1, tClkHigh := 0, tData := 1, tStart := 0, tStopLow := 1,
                   tStopHigh := 1, sync1 := false, sync2 := true },
          gen := { cycleBits := 1, width := 1, tEndCycle := 1, tClkHigh := 0, tData := 1 },
          att := { cycleBits := 4, width := 1, tClkHigh := 15, tData := 0 },
          spi := { cycleBits := 1, width := 1, tEndCycle := 1, tClkHigh := 0, tData := 1, sync1 := false, sync2 := true } } := by
  decide

theorem test_witness_WriteResults :
    busyState.i2c.port.inp.rst = false ∧ busyState.gen.port.inp.rst = false ∧ busyState.att.port.inp.rst = false ∧
      busyState.spi.port.inp.rst = false := by decide

theorem test_witness_WriteLostInReset :
    (Instr.cfgI2cSdaIn (.write 3)).access = some (.write 3) ∧
      ((busyWith .i2c resetting).port (Instr.cfgI2cSdaIn (.write 3)).row.variant).inp.rst = true ∧
      (Instr.cfgSpiEndCycle (.write 3)).access = some (.write 3) ∧
      ((busyWith .spi resetting).port (Instr.cfgSpiEndCycle (.write 3)).row.variant).inp.rst = true := by decide

theorem test_witness_TransitionTargets :
    ((idleState request).gen.port.inp.dataReady = true ∧ (idleState request).att.port.inp.dataReady = true ∧
        (idleState request).spi.port.inp.dataReady = true) ∧
      let s := sample .transfer .transfer .transfer .transfer 5 0 quiet
      (s.gen.serial.base.cnt = s.gen.serial.base.endCycle ∧ s.gen.serial.base.rem = 0) ∧
        (s.att.serial.base.cnt = s.att.serial.base.endCycle ∧ s.att.serial.base.rem = 0) ∧
        (s.spi.serial.base.cnt = s.spi.serial.base.endCycle ∧ s.spi.serial.base.rem = 0) := by decide

/-- A common base whose encoders stand in `WAIT` with one clock level. -/
theorem test_witness_GenericBaseShared :
    let s : State := { idleState request with
      spi := { (idleState request).spi with serial := (idleState request).gen.serial } }
    s.gen.state = .wait ∧ s.att.state = .wait ∧ s.spi.state = .wait ∧ s.gen.serial = s.att.serial ∧
      s.att.serial = s.spi.serial ∧ s.gen.par.toDims = s.att.par.toDims ∧ s.att.par.toDims = s.spi.par.toDims ∧
      s.gen.port.inp = s.att.port.inp ∧ s.att.port.inp = s.spi.port.inp := by decide

theorem test_witness_DecodeEncode :
    Instr.i2cStop.wellFormed = true ∧ (Instr.cfgAttLeLow .read).wellFormed = true ∧
      (Instr.cfgAttLeLow (.write 0)).wellFormed = true ∧ (Instr.cfgAttLeLow (.write (2 ^ 64 - 1))).wellFormed = true := by
  decide

/-- The last register of I2C is named, the first empty index of GEN is not. -/
theorem test_witness_StepCompletes :
    (busyWith .i2c (reading 8)).AccessesNamed ∧ ¬ (busyWith .gen (reading 3)).AccessesNamed := by
  constructor
  · intro v
    cases v <;> exact names_spec (by decide)
  · intro h
    exact absurd ((h .gen).1 3#4 rfl) (by decide)

theorem test_witness_StepRunsFetchedState :
    let s := busyState
    step s = .next s.next ∧
      (decodeState .i2c (s.stateCode .i2c) = some .i2cTransfer ∧ s.i2c.port.inp.rst = false ∧
        s.i2c.port.inp.cfgRd = none ∧ s.i2c.port.inp.cfgWr = none ∧
        exec .i2cTransfer (s.clearRdata .i2c) = .next ((s.clearRdata .i2c).withI2c (s.clearRdata .i2c).i2c.transferTick)) ∧
      (decodeState .gen (s.stateCode .gen) = some .genTransfer ∧ s.gen.port.inp.rst = false ∧
        s.gen.port.inp.cfgRd = none ∧ s.gen.port.inp.cfgWr = none ∧
        exec .genTransfer (s.clearRdata .gen) = .next ((s.clearRdata .gen).withGen (s.clearRdata .gen).gen.transferTick)) ∧
      (decodeState .att (s.stateCode .att) = some .attTransfer ∧ s.att.port.inp.rst = false ∧
        s.att.port.inp.cfgRd = none ∧ s.att.port.inp.cfgWr = none ∧
        exec .attTransfer (s.clearRdata .att) = .next ((s.clearRdata .att).withAtt (s.clearRdata .att).att.transferTick)) ∧
      (decodeState .spi (s.stateCode .spi) = some .spiTransfer ∧ s.spi.port.inp.rst = false ∧
        s.spi.port.inp.cfgRd = none ∧ s.spi.port.inp.cfgWr = none ∧
        exec .spiTransfer (s.clearRdata .spi) = .next ((s.clearRdata .spi).withSpi (s.clearRdata .spi).spi.transferTick)) :=
  ⟨step_of_names _ (by decide), ⟨rfl, rfl, rfl, rfl, rfl⟩, ⟨rfl, rfl, rfl, rfl, rfl⟩, ⟨rfl, rfl, rfl, rfl, rfl⟩,
    ⟨rfl, rfl, rfl, rfl, rfl⟩⟩

/-- A read and a write of the same register in one tick. -/
def readWrite : TickInput := { writing 0 9 with cfgRd := some 0 }

/-- The premises of StepRunsAccesses at a GEN instance with the given inputs, in a machine that steps. -/
def AccessPremises (inp : TickInput) : Prop :=
  ∃ s1 s2 s3 : State, let s := busyWith .gen inp
    step s = .next s.next ∧ (s.port .gen).inp.rst = false ∧
    decodeState .gen (s.stateCode .gen) = some .genTransfer ∧
    (match (s.port .gen).inp.cfgRd with
      | none => s1 = s.clearRdata .gen
      | some r => ∃ j, decodeCfg .gen r.toNat .read = some j ∧ exec j s = .next s1) ∧
    exec .genTransfer s1 = .next s2 ∧
    match (s.port .gen).inp.cfgWr with
      | none => s3 = s2
      | some w => ∃ k, decodeCfg .gen w.index.toNat (.write w.value) = some k ∧ exec k s2 = .next s3

/-- A tick with no access, with a read only, with a write only (the last register of GEN), and with both. -/
theorem test_witness_StepRunsAccesses :
    AccessPremises quiet ∧ AccessPremises (reading 2) ∧ AccessPremises (writing 2 9) ∧ AccessPremises readWrite :=
  ⟨⟨_, _, _, step_of_names _ (by decide), rfl, rfl, rfl, rfl, rfl⟩,
    ⟨_, _, _, step_of_names _ (by decide), rfl, rfl, ⟨_, rfl, rfl⟩, rfl, rfl⟩,
    ⟨_, _, _, step_of_names _ (by decide), rfl, rfl, rfl, rfl, ⟨_, rfl, rfl⟩⟩,
    ⟨_, _, _, step_of_names _ (by decide), rfl, rfl, ⟨_, rfl, rfl⟩, rfl, ⟨_, rfl, rfl⟩⟩⟩

/-- Two machines that agree on I2C and GEN and differ on the others. -/
theorem test_witness_InstancesIndependent :
    let s := busyState
    let s' := sample .transfer .transfer .latch .csnHi 1 8 quiet
    step s = .next s.next ∧ step s' = .next s'.next ∧ s.i2c = s'.i2c ∧ s.gen = s'.gen :=
  ⟨step_of_names _ (by decide), step_of_names _ (by decide), rfl, rfl⟩

theorem test_witness_InstancesIndependent_att_spi :
    let s := busyState
    let s' := sample .ack .wait .transfer .transfer 1 8 quiet
    step s = .next s.next ∧ step s' = .next s'.next ∧ s.att = s'.att ∧ s.spi = s'.spi :=
  ⟨step_of_names _ (by decide), step_of_names _ (by decide), rfl, rfl⟩

/-- The counter and `rem` at the ends of their ranges. -/
theorem test_witness_InRangeKept :
    let s := sample .transfer .transfer .latch .transfer 15 0 quiet
    s.InRange ∧ step s = .next s.next :=
  ⟨sample_inRange _ _ _ _ 15 0 _ (by decide) (by decide), step_of_names _ (by decide)⟩

/-- Outside `WAIT`, at the end of a cycle and in its middle, and in `WAIT`. -/
theorem test_witness_CounterNext :
    (step busyState = .next busyState.next ∧ busyState.i2c.port.inp.rst = false ∧ busyState.gen.port.inp.rst = false ∧
        busyState.att.port.inp.rst = false ∧ busyState.spi.port.inp.rst = false) ∧
      let s := sample .transfer .wait .latch .csnHi 5 0 quiet
      step s = .next s.next ∧ s.i2c.base.cnt = s.i2c.base.endCycle ∧ s.gen.state = .wait ∧ s.att.state = .latch ∧
        s.spi.serial.base.cnt = s.spi.serial.base.endCycle :=
  ⟨⟨step_of_names _ (by decide), by decide⟩, step_of_names _ (by decide), by decide⟩

theorem test_witness_EndOfCycleZeroesCounter :
    let s := sample .transfer .transfer .transfer .transfer 5 8 quiet
    step s = .next s.next ∧ s.i2c.base.evEnd = true ∧ s.gen.serial.base.evEnd = true ∧ s.att.serial.base.evEnd = true ∧
      s.spi.serial.base.evEnd = true := ⟨step_of_names _ (by decide), by decide⟩

theorem test_witness_FirstTickOfStateCntZero :
    let s := idleState request
    step s = .next s.next ∧ (s.next.i2c.state ≠ .wait ∧ s.next.i2c.state ≠ s.i2c.state) ∧
      (s.next.gen.state ≠ .wait ∧ s.next.gen.state ≠ s.gen.state) ∧
      (s.next.att.state ≠ .wait ∧ s.next.att.state ≠ s.att.state) ∧
      (s.next.spi.state ≠ .wait ∧ s.next.spi.state ≠ s.spi.state) := ⟨step_of_names _ (by decide), by decide⟩

/-- A shift with nothing left, in every instance. -/
theorem test_witness_FaultFlagNext :
    let s := sample .transfer .transfer .transfer .transfer 1 0 quiet
    step s = .next s.next ∧ s.next.NoUnderflow = False :=
  ⟨step_of_names _ (by decide), eq_false fun h => absurd h.gen (by decide)⟩

/-- A write to another register, on every instance; all the premises of ConfigKept about registers 1 and up hold. -/
theorem test_witness_ConfigKept :
    let s := sample .transfer .transfer .transfer .transfer 1 8 (writing 0 9)
    step s = .next s.next ∧
      (s.i2c.port.inp.rst = false ∧ s.gen.port.inp.rst = false ∧ s.att.port.inp.rst = false ∧ s.spi.port.inp.rst = false) ∧
      ∀ k : RegIndex, k ≠ 0 → (∀ w, s.i2c.port.inp.cfgWr = some w → w.index ≠ k) ∧
        (∀ w, s.gen.port.inp.cfgWr = some w → w.index ≠ k) ∧ (∀ w, s.att.port.inp.cfgWr = some w → w.index ≠ k) ∧
        ∀ w, s.spi.port.inp.cfgWr = some w → w.index ≠ k := by
  refine ⟨step_of_names _ (by decide), by decide, fun k hk => ⟨?_, ?_, ?_, ?_⟩⟩ <;> rintro w ⟨⟩ <;> exact hk.symm

/-- The same for register 0, beside a write to register 1. -/
theorem test_witness_ConfigKept_endCycle :
    let s := sample .transfer .transfer .transfer .transfer 1 8 (writing 1 9)
    step s = .next s.next ∧ ∀ w, s.gen.port.inp.cfgWr = some w → w.index ≠ 0#4 := by
  refine ⟨step_of_names _ (by decide), ?_⟩
  rintro w ⟨⟩
  decide

theorem test_witness_ConfigWrittenNextTick_i2c :
    ∀ k < 8, let s := busyWith .i2c (writing (BitVec.ofNat 4 k) 25)
      step s = .next s.next ∧ s.i2c.port.inp.rst = false ∧
        s.i2c.port.inp.cfgWr = some { index := BitVec.ofNat 4 k, value := 25 } := by
  intro k hk
  refine ⟨step_of_names _ ?_, rfl, rfl⟩
  interval_cases k <;> decide

theorem test_witness_ConfigWrittenNextTick_gen :
    ∀ k < 3, let s := busyWith .gen (writing (BitVec.ofNat 4 k) 25)
      step s = .next s.next ∧ s.gen.port.inp.rst = false ∧
        s.gen.port.inp.cfgWr = some { index := BitVec.ofNat 4 k, value := 25 } := by
  intro k hk
  refine ⟨step_of_names _ ?_, rfl, rfl⟩
  interval_cases k <;> decide

theorem test_witness_ConfigWrittenNextTick_att :
    ∀ k < 5, let s := busyWith .att (writing (BitVec.ofNat 4 k) 25)
      step s = .next s.next ∧ s.att.port.inp.rst = false ∧
        s.att.port.inp.cfgWr = some { index := BitVec.ofNat 4 k, value := 25 } := by
  intro k hk
  refine ⟨step_of_names _ ?_, rfl, rfl⟩
  interval_cases k <;> decide

theorem test_witness_ConfigWrittenNextTick_spi :
    ∀ k < 5, let s := busyWith .spi (writing (BitVec.ofNat 4 k) 25)
      step s = .next s.next ∧ s.spi.port.inp.rst = false ∧
        s.spi.port.inp.cfgWr = some { index := BitVec.ofNat 4 k, value := 25 } := by
  intro k hk
  refine ⟨step_of_names _ ?_, rfl, rfl⟩
  interval_cases k <;> decide

theorem test_witness_ResetTick :
    let s := sample .transfer .transfer .latch .csnHi 1 3 resetting
    step s = .next s.next ∧ s.i2c.port.inp.rst = true ∧ s.gen.port.inp.rst = true ∧ s.att.port.inp.rst = true ∧
      s.spi.port.inp.rst = true := ⟨step_of_names _ (by decide), by decide⟩

theorem test_witness_SynchronizerLatency :
    step busyState = .next busyState.next ∧ step busyState.next = .next busyState.next.next :=
  ⟨step_of_names _ (by decide), step_of_names _ (by decide)⟩

/-- A read of the register that the same tick writes. -/
theorem test_witness_ReadSeesOldValue :
    ∃ t1 : State, let s := busyWith .gen readWrite
      step s = .next s.next ∧ (s.port .gen).inp.cfgRd = some 0 ∧
      decodeCfg .gen (0 : RegIndex).toNat .read = some (.cfgGenEndCycle .read) ∧
      exec (.cfgGenEndCycle .read) s = .next t1 := ⟨_, step_of_names _ (by decide), rfl, rfl, rfl⟩

theorem test_witness_BusyRequestIgnored : ∀ v, busyState.busy v = true := by
  intro v
  cases v <;> decide

/-- The sampled line and the synchronizer stages changed, with a read of `sda_in` in the tick. -/
theorem test_witness_InputLineOnlySynchronized :
    let s := busyWith .i2c (reading 8)
    let u := { s with
        i2c := { s.i2c with port := { s.i2c.port with inp := { s.i2c.port.inp with pin := false } } },
        spi := { s.spi with port := { s.spi.port with inp := { s.spi.port.inp with pin := false } } } }
    let w := { s with
        i2c := { s.i2c with overlay := { s.i2c.overlay with sync1 := false, sync2 := false } },
        spi := { s.spi with overlay := { s.spi.overlay with sync1 := false, sync2 := false } } }
    step s = .next s.next ∧ step u = .next (State.next u) ∧ step w = .next (State.next w) :=
  ⟨step_of_names _ (by decide), step_of_names _ (by decide), step_of_names _ (by decide)⟩

theorem test_witness_BitBangInvisible :
    let s := busyState
    let u := { s with
      i2c := { s.i2c with overlay := { s.i2c.overlay with bbEn := true, bbOut := 0 } },
      spi := { s.spi with overlay := { s.spi.overlay with bbEn := true, bbOut := 0 } } }
    step s = .next s.next ∧ step u = .next (State.next u) := ⟨step_of_names _ (by decide), step_of_names _ (by decide)⟩

theorem test_witness_LinesHeldInWait :
    let s := idleState request
    step s = .next s.next ∧ (s.i2c.state = .wait ∧ s.i2c.port.inp.rst = false) ∧
      (s.gen.state = .wait ∧ s.gen.port.inp.rst = false) ∧ (s.att.state = .wait ∧ s.att.port.inp.rst = false) ∧
      (s.spi.state = .wait ∧ s.spi.port.inp.rst = false) := ⟨step_of_names _ (by decide), by decide⟩

def csnMoves (s : State) : Prop := step s = .next s.next ∧ s.next.spi.csn ≠ s.spi.csn

/-- Chip select falls in `TRANSFER`, rises in `CSN_HI`, and rises by a reset. -/
theorem test_witness_ChipSelectAlignment :
    csnMoves (sample .wait .wait .wait .transfer 1 8 quiet) ∧ csnMoves (sample .wait .wait .wait .csnHi 1 0 quiet) ∧
      csnMoves (sample .wait .wait .wait .transfer 4 3 resetting) :=
  ⟨⟨step_of_names _ (by decide), by decide⟩, ⟨step_of_names _ (by decide), by decide⟩,
    ⟨step_of_names _ (by decide), by decide⟩⟩

theorem test_witness_ShiftOrder : (0 ≤ 8 ∧ 0 < 8) ∧ (7 ≤ 8 ∧ 7 < 8) ∧ 8 ≤ 8 := by decide

theorem test_witness_PadOwnership :
    busyState.i2c.overlay.bbEn = false ∧ busyState.spi.overlay.bbEn = false ∧
      ({ busyState.i2c.overlay with bbEn := true } : Overlay).bbEn = true := by decide

/-- The start condition: `START` at the start event. -/
theorem test_witness_I2cWaveform :
    let s := sample .start .wait .wait .wait 2 8 quiet
    s.i2c.InRange ∧ s.i2c.Phase ∧ s.i2c.WellTimed ∧ s.i2c.port.inp.ConfigHeld .i2c ∧ step s = .next s.next ∧
      s.i2c.port.inp.rst = false ∧ s.i2c.scl = true ∧ s.next.i2c.scl = true ∧ s.next.i2c.sdaO ≠ s.i2c.sdaO :=
  ⟨(sample_inRange _ _ _ _ 2 8 _ (by decide) (by decide)).i2c,
    ⟨by decide, by decide, by decide, by decide, by decide, by decide⟩, sampleI2c_wellTimed _ _ _ _,
    (fun w hw => by cases hw), step_of_names _ (by decide), by decide, by decide, by decide, by decide⟩

/-- The stop condition: `STOP` at the `stop_high` event. -/
theorem test_witness_I2cWaveform_stop :
    let s := sample .stop .wait .wait .wait 4 0 quiet
    s.i2c.InRange ∧ s.i2c.Phase ∧ s.i2c.WellTimed ∧ s.i2c.port.inp.ConfigHeld .i2c ∧ step s = .next s.next ∧
      s.i2c.port.inp.rst = false ∧ s.i2c.scl = true ∧ s.next.i2c.scl = true ∧ s.next.i2c.sdaO ≠ s.i2c.sdaO :=
  ⟨(sample_inRange _ _ _ _ 4 0 _ (by decide) (by decide)).i2c,
    ⟨by decide, by decide, by decide, by decide, by decide, by decide⟩, sampleI2c_wellTimed _ _ _ _,
    (fun w hw => by cases hw), step_of_names _ (by decide), by decide, by decide, by decide, by decide⟩

theorem test_witness_GenBitCells :
    let s := sample .wait .transfer .wait .wait 1 8 quiet
    s.gen.InRange ∧ s.gen.Phase ∧ s.gen.serial.WellTimed ∧ s.gen.port.inp.ConfigHeld .gen ∧ step s = .next s.next ∧
      s.gen.port.inp.rst = false ∧ s.next.gen.serial.sdo ≠ s.gen.serial.sdo :=
  ⟨(sample_inRange _ _ _ _ 1 8 _ (by decide) (by decide)).gen, ⟨by decide, by decide, by decide⟩,
    sampleSerial_wellTimed _ _ _ _, (fun w hw => by cases hw), step_of_names _ (by decide), by decide, by decide⟩

/-- The last tick of `LATCH`. -/
theorem test_witness_AttLatchPulse :
    let s := sample .wait .wait .latch .wait 5 0 quiet
    s.att.InRange ∧ s.att.Phase ∧ s.att.serial.ValidTiming ∧ s.att.leHigh < s.att.leLow ∧
      s.att.port.inp.ConfigHeld .att ∧ step s = .next s.next :=
  ⟨(sample_inRange _ _ _ _ 5 0 _ (by decide) (by decide)).att,
    ⟨by decide, by decide, by decide, by decide, by decide, by decide⟩, (sampleSerial_wellTimed _ _ _ _).valid,
    by decide, (fun w hw => by cases hw), step_of_names _ (by decide)⟩

/-- The tick that selects the chip and sends the first bit. -/
theorem test_witness_SpiWaveform :
    let s := sample .wait .wait .wait .transfer 1 8 quiet
    s.spi.InRange ∧ s.spi.Phase ∧ s.spi.serial.WellTimed ∧ s.spi.port.inp.ConfigHeld .spi ∧ step s = .next s.next ∧
      s.spi.port.inp.rst = false ∧ (s.next.spi.serial.sdo ≠ s.spi.serial.sdo ∨ s.next.spi.csn ≠ s.spi.csn) :=
  ⟨(sample_inRange _ _ _ _ 1 8 _ (by decide) (by decide)).spi,
    ⟨by decide, by decide, by decide, by decide, by decide, by decide⟩, sampleSerial_wellTimed _ _ _ _,
    (fun w hw => by cases hw), step_of_names _ (by decide), by decide, by decide⟩

theorem test_witness_GenTransaction :
    let f := run (idleState request)
    (f 0).gen.InRange ∧ (f 0).gen.state = .wait ∧ (f 0).gen.port.inp.dataReady = true ∧ 8 = (f 0).gen.par.width ∧
      5 = (f 1).gen.serial.base.endCycle ∧ (f 1).gen.serial.ValidTiming ∧ 48 = (5 + 1) * 8 ∧ IsRun f (48 + 1) ∧
      (∀ k ≤ 48, (f k).gen.port.inp.NoReset) ∧ ∀ k, 1 ≤ k → k ≤ 48 → (f k).gen.port.inp.ConfigHeld .gen :=
  ⟨(sample_inRange _ _ _ _ 0 8 _ (by decide) (by decide)).gen, rfl, rfl, rfl, by decide, ⟨by decide, by decide⟩, rfl,
    run_isRun idle_silent _, fun k _ => silent_noReset (run_silent idle_silent k .gen),
    fun k _ _ => silent_configHeld (run_silent idle_silent k .gen) .gen⟩

theorem test_witness_I2cTransaction :
    let f := run (idleState request)
    (f 0).i2c.InRange ∧ (f 0).i2c.state = .wait ∧ (f 0).i2c.port.inp.dataReady = true ∧ 8 = (f 0).i2c.par.width ∧
      5 = (f 1).i2c.base.endCycle ∧ 8 % 8 = 0 ∧ (f 1).i2c.ValidTiming ∧ 66 = (5 + 1) * (8 + 8 / 8 + 2) ∧
      IsRun f (66 + 1) ∧ (∀ k ≤ 66, (f k).i2c.port.inp.NoReset) ∧
      ∀ k, 1 ≤ k → k ≤ 66 → (f k).i2c.port.inp.ConfigHeld .i2c :=
  ⟨(sample_inRange _ _ _ _ 0 8 _ (by decide) (by decide)).i2c, rfl, rfl, rfl, by decide, rfl,
    ⟨by decide, by decide, by decide, by decide, by decide⟩, rfl, run_isRun idle_silent _,
    fun k _ => silent_noReset (run_silent idle_silent k .i2c),
    fun k _ _ => silent_configHeld (run_silent idle_silent k .i2c) .i2c⟩

theorem test_witness_AttTransaction :
    let f := run (idleState request)
    (f 0).att.InRange ∧ (f 0).att.state = .wait ∧ (f 0).att.port.inp.dataReady = true ∧ 8 = (f 0).att.par.width ∧
      5 = (f 1).att.serial.base.endCycle ∧ 5 = (f 1).att.leLow ∧ (f 1).att.serial.ValidTiming ∧
      54 = (5 + 1) * 8 + 5 + 1 ∧ IsRun f (54 + 1) ∧ (∀ k ≤ 54, (f k).att.port.inp.NoReset) ∧
      ∀ k, 1 ≤ k → k ≤ 54 → (f k).att.port.inp.ConfigHeld .att :=
  ⟨(sample_inRange _ _ _ _ 0 8 _ (by decide) (by decide)).att, rfl, rfl, rfl, by decide, by decide,
    ⟨by decide, by decide⟩, rfl, run_isRun idle_silent _, fun k _ => silent_noReset (run_silent idle_silent k .att),
    fun k _ _ => silent_configHeld (run_silent idle_silent k .att) .att⟩

theorem test_witness_SpiTransaction :
    let f := run (idleState request)
    (f 0).spi.InRange ∧ (f 0).spi.state = .wait ∧ (f 0).spi.port.inp.dataReady = true ∧ 8 = (f 0).spi.par.width ∧
      5 = (f 1).spi.serial.base.endCycle ∧ (f 1).spi.serial.ValidTiming ∧ 60 = (5 + 1) * (8 + 2) ∧
      IsRun f (60 + 1) ∧ (∀ k ≤ 60, (f k).spi.port.inp.NoReset) ∧
      ∀ k, 1 ≤ k → k ≤ 60 → (f k).spi.port.inp.ConfigHeld .spi :=
  ⟨(sample_inRange _ _ _ _ 0 8 _ (by decide) (by decide)).spi, rfl, rfl, rfl, by decide, ⟨by decide, by decide⟩, rfl,
    run_isRun idle_silent _, fun k _ => silent_noReset (run_silent idle_silent k .spi),
    fun k _ _ => silent_configHeld (run_silent idle_silent k .spi) .spi⟩

/-- The data event above the end of the cycle: `data` = 6 beside `end_cycle` = 5. -/
def hungBase (cnt : Nat) : Base := { sampleBase cnt 8 with data := 6 }

theorem hungBase_inRange (cnt : Nat) (hc : cnt < 16) : (hungBase cnt).InRange { cycleBits := 4, width := 8 } :=
  ⟨hc, (by decide : 5 < 2 ^ 4), (by decide : 3 < 2 ^ 4), (by decide : 6 < 2 ^ 4), (by decide : 0x65 < 2 ^ 8),
    (by decide : 8 ≤ 8)⟩

def hungState (i : I2cState) (cnt : Nat) : State :=
  let s := sample i .transfer .transfer .transfer cnt 8 quiet
  { i2c := { s.i2c with base := hungBase cnt },
    gen := { s.gen with serial := { s.gen.serial with base := hungBase cnt } },
    att := { s.att with serial := { s.att.serial with base := hungBase cnt } },
    spi := { s.spi with serial := { s.spi.serial with base := hungBase cnt } } }

/-- At the end of a cycle; I2C in `TRANSFER` and in `ACK`. -/
theorem test_witness_UnreachableDataHangs :
    ∀ i, i = I2cState.transfer ∨ i = I2cState.ack →
      let s := hungState i 5
      step s = .next s.next ∧
        (s.gen.InRange ∧ s.gen.state = .transfer ∧ s.gen.serial.base.endCycle < s.gen.serial.base.data ∧
          s.gen.serial.base.cnt ≤ s.gen.serial.base.endCycle ∧ s.gen.serial.base.rem ≠ 0 ∧ s.gen.port.inp.NoReset ∧
          s.gen.port.inp.ConfigHeld .gen) ∧
        (s.att.InRange ∧ s.att.state = .transfer ∧ s.att.serial.base.endCycle < s.att.serial.base.data ∧
          s.att.serial.base.cnt ≤ s.att.serial.base.endCycle ∧ s.att.serial.base.rem ≠ 0 ∧ s.att.port.inp.NoReset ∧
          s.att.port.inp.ConfigHeld .att) ∧
        (s.spi.InRange ∧ s.spi.state = .transfer ∧ s.spi.serial.base.endCycle < s.spi.serial.base.data ∧
          s.spi.serial.base.cnt ≤ s.spi.serial.base.endCycle ∧ s.spi.serial.base.rem ≠ 0 ∧ s.spi.port.inp.NoReset ∧
          s.spi.port.inp.ConfigHeld .spi) ∧
        (s.i2c.InRange ∧ (s.i2c.state = .transfer ∨ s.i2c.state = .ack) ∧ s.i2c.base.endCycle < s.i2c.base.data ∧
          s.i2c.base.cnt ≤ s.i2c.base.endCycle ∧ s.i2c.base.rem ≠ 0 ∧
          s.i2c.port.inp.NoReset ∧ s.i2c.port.inp.ConfigHeld .i2c) := by
  rintro i (rfl | rfl)
  all_goals
    exact ⟨step_of_names _ (by decide),
      ⟨⟨by decide, hungBase_inRange 5 (by decide)⟩, rfl, by decide, by decide, by decide, rfl, (fun w hw => by cases hw)⟩,
      ⟨⟨by decide, hungBase_inRange 5 (by decide), by decide, by decide, by decide⟩, rfl, by decide, by decide, by decide,
        rfl, (fun w hw => by cases hw)⟩,
      ⟨⟨by decide, hungBase_inRange 5 (by decide)⟩, rfl, by decide, by decide, by decide, rfl, (fun w hw => by cases hw)⟩,
      ⟨by decide, hungBase_inRange 5 (by decide), by decide, by decide, by decide⟩, by decide, by decide, by decide,
      by decide, rfl, (fun w hw => by cases hw)⟩

/-- A write in every instance's tick, and the same tick without the writes. -/
theorem test_witness_WriteUnseenInItsTick :
    let s := sample .transfer .transfer .transfer .transfer 1 8 (writing 0 9)
    let u : State := sample .transfer .transfer .transfer .transfer 1 8 { writing 0 9 with cfgWr := none }
    step s = .next s.next ∧ step u = .next u.next := ⟨step_of_names _ (by decide), step_of_names _ (by decide)⟩

/-- A map of the last register of I2C and the first of GEN; address 0 is in no entry. -/
theorem test_witness_BusAddressNamesRegister :
    let m : Config.CfgMap := [{ variant := .i2c, index := 8, address := 7 }, { variant := .gen, index := 0, address := 8 }]
    m.Injective ∧ ∀ e ∈ m, e.address ≠ 0 := by decide

theorem test_witness_RequestAccepted :
    (step (idleState request) = .next (idleState request).next ∧ ∀ v, (idleState request).accepted v = true) ∧
      step (idleState quiet) = .next (idleState quiet).next ∧
      ∀ v, (idleState quiet).idle v = true ∧ ((idleState quiet).port v).inp.dataReady = false :=
  ⟨⟨step_of_names _ (by decide), fun v => by cases v <;> decide⟩, step_of_names _ (by decide),
    fun v => by cases v <;> decide⟩

end Sys2Proof.Tests
end

section
/-! PROOFS. The registers of a state (10_state.md): their values and ranges at power-up, what a tick keeps of them, and how a
step is composed of its parts. -/

namespace Sys2Proof.Machine

open Sys2Proof.Config

/-! ## The parts of a tick

All a part can do, once for each encoder variant. -/

/-- A tick's write stores into the register it names, or leaves the encoder as it is. -/
theorem I2c.writeNext_cases (m : I2c) :
    m.writeNext = m ∨ ∃ w, m.port.inp.cfgWr = some w ∧ m.writeNext = m.store w.index.toNat w.value := by
  unfold I2c.writeNext
  cases m.port.inp.cfgWr <;> cases m.port.inp.rst <;> simp

theorem Gen.writeNext_cases (m : Gen) :
    m.writeNext = m ∨ ∃ w, m.port.inp.cfgWr = some w ∧ m.writeNext = m.store w.index.toNat w.value := by
  unfold Gen.writeNext
  cases m.port.inp.cfgWr <;> cases m.port.inp.rst <;> simp

theorem Att.writeNext_cases (m : Att) :
    m.writeNext = m ∨ ∃ w, m.port.inp.cfgWr = some w ∧ m.writeNext = m.store w.index.toNat w.value := by
  unfold Att.writeNext
  cases m.port.inp.cfgWr <;> cases m.port.inp.rst <;> simp

theorem Spi.writeNext_cases (m : Spi) :
    m.writeNext = m ∨ ∃ w, m.port.inp.cfgWr = some w ∧ m.writeNext = m.store w.index.toNat w.value := by
  unfold Spi.writeNext
  cases m.port.inp.cfgWr <;> cases m.port.inp.rst <;> simp

/-- Without a reset the state part is the rule of the state. -/
theorem I2c.stateNext_of_noReset {m : I2c} (h : m.port.inp.rst = false) : m.stateNext = m.stateTick := by
  simp [I2c.stateNext, h]

theorem Gen.stateNext_of_noReset {m : Gen} (h : m.port.inp.rst = false) : m.stateNext = m.stateTick := by
  simp [Gen.stateNext, h]

theorem Att.stateNext_of_noReset {m : Att} (h : m.port.inp.rst = false) : m.stateNext = m.stateTick := by
  simp [Att.stateNext, h]

theorem Spi.stateNext_of_noReset {m : Spi} (h : m.port.inp.rst = false) : m.stateNext = m.stateTick := by
  simp [Spi.stateNext, h]

/-! ## The common registers keep their widths -/

section BaseInRange

variable {d : Dims} {b : Base}

theorem Base.InRange.tickCounter (h : b.InRange d) (waiting : Bool) : (b.tickCounter d.cycleBits waiting).InRange d where
  cnt := by
    rw [Base.tickCounter_cnt]
    split
    · exact Nat.two_pow_pos _
    · exact trunc_lt _ _
  endCycle := h.endCycle
  clkHigh := h.clkHigh
  data := h.data
  sr := h.sr
  rem := h.rem

theorem Base.InRange.load (h : b.InRange d) (payload : Nat) : (b.load d.width payload).InRange d :=
  { h with sr := trunc_lt _ _, rem := le_rfl }

theorem Base.InRange.shift (h : b.InRange d) : b.shift.InRange d where
  cnt := by simpa using h.cnt
  endCycle := by simpa using h.endCycle
  clkHigh := by simpa using h.clkHigh
  data := by simpa using h.data
  sr := by
    rw [Base.shift_sr, Nat.shiftRight_one]
    exact (Nat.div_le_self _ _).trans_lt h.sr
  rem := by
    rw [Base.shift_rem]
    exact (Nat.sub_le _ _).trans h.rem

/-- The shifter of a TRANSFER tick: it shifts at the data event only. -/
theorem Base.InRange.shiftIf (h : b.InRange d) (atData : Bool) : (if atData then b.shift else b).InRange d := by
  cases atData
  · exact h
  · exact h.shift

theorem Base.InRange.storeEndCycle (h : b.InRange d) (v : Nat) : (b.storeEndCycle d.cycleBits v).InRange d :=
  { h with endCycle := trunc_lt _ _ }

theorem Base.InRange.storeClkHigh (h : b.InRange d) (v : Nat) : (b.storeClkHigh d.cycleBits v).InRange d :=
  { h with clkHigh := trunc_lt _ _ }

theorem Base.InRange.storeData (h : b.InRange d) (v : Nat) : (b.storeData d.cycleBits v).InRange d :=
  { h with data := trunc_lt _ _ }

theorem Base.InRange.withFaultFlag (h : b.InRange d) (f : Bool) : ({ b with faultUnderflow := f } : Base).InRange d :=
  { h with }

theorem Base.powerUp_inRange {endCycle clkHigh data : Nat} (he : d.Fits endCycle) (hc : d.Fits clkHigh)
    (hd : d.Fits data) : (Base.powerUp d.width endCycle clkHigh data).InRange d where
  cnt := Nat.two_pow_pos _
  endCycle := he
  clkHigh := hc
  data := hd
  sr := Nat.two_pow_pos _
  rem := le_rfl

end BaseInRange

/-! ## Every encoder powers up with its registers in range -/

theorem I2c.powerUp_inRange {p : I2cParams} (h : p.Legal) : (I2c.powerUp p).InRange := by
  obtain ⟨-, hEnd, hClk, hData, hStart, hStopLow, hStopHigh⟩ := id h
  exact ⟨h, Base.powerUp_inRange hEnd hClk hData, hStart, hStopLow, hStopHigh⟩

theorem Gen.powerUp_inRange {p : GenParams} (h : p.Legal) : (Gen.powerUp p).InRange := by
  obtain ⟨-, hEnd, hClk, hData⟩ := id h
  exact ⟨h, Base.powerUp_inRange hEnd hClk hData⟩

/-- The reset values 8, 5 and 15 need the four bits that 00_scope.md R10 asks of ATT. -/
theorem Att.powerUp_inRange {p : AttParams} (h : p.Legal) : (Att.powerUp p).InRange := by
  obtain ⟨-, hFour, hClk, hData⟩ := id h
  have hFits (v : Nat) (hv : v < 2 ^ 4) : p.Fits v := hv.trans_le (Nat.pow_le_pow_right (by decide) hFour)
  exact ⟨h, Base.powerUp_inRange (hFits 8 (by decide)) hClk hData, hFits 5 (by decide), hFits 15 (by decide),
    hFits 0 (by decide)⟩

theorem Spi.powerUp_inRange {p : SpiParams} (h : p.Legal) : (Spi.powerUp p).InRange := by
  obtain ⟨-, hEnd, hClk, hData⟩ := id h
  exact ⟨h, Base.powerUp_inRange hEnd hClk hData⟩

theorem State.powerUp_inRange {p : Params} (h : p.Legal) : (State.powerUp p).InRange := by
  obtain ⟨hi2c, hgen, hatt, hspi⟩ := h
  exact ⟨I2c.powerUp_inRange hi2c, Gen.powerUp_inRange hgen, Att.powerUp_inRange hatt, Spi.powerUp_inRange hspi⟩

/-! ## Every part of a tick keeps the registers in range

A reset loads the power-up values, so its case is `powerUp_inRange`. -/

section I2cInRange

variable {m : I2c}

theorem I2c.InRange.stateTick (h : m.InRange) : m.stateTick.InRange := by
  unfold I2c.stateTick
  split
  · exact { h with base := (h.base.load _).tickCounter _ }
  · exact { h with base := h.base.tickCounter _ }
  · exact { h with base := (h.base.shiftIf _).tickCounter _ }
  · exact { h with base := h.base.tickCounter _ }
  · exact { h with base := h.base.tickCounter _ }

theorem I2c.InRange.applyReset (h : m.InRange) : m.applyReset.InRange :=
  { I2c.powerUp_inRange h.par with base := (I2c.powerUp_inRange h.par).base.withFaultFlag _ }

theorem I2c.InRange.stateNext (h : m.InRange) : m.stateNext.InRange := by
  unfold I2c.stateNext
  split
  · exact h.applyReset
  · exact h.stateTick

theorem I2c.InRange.store (h : m.InRange) (n v : Nat) : (m.store n v).InRange := by
  unfold I2c.store
  split
  · exact { h with base := h.base.storeEndCycle v }
  · exact { h with base := h.base.storeClkHigh v }
  · exact { h with base := h.base.storeData v }
  · exact { h with start := trunc_lt _ _ }
  · exact { h with stopLow := trunc_lt _ _ }
  · exact { h with stopHigh := trunc_lt _ _ }
  all_goals exact { h with }

theorem I2c.InRange.writeNext (h : m.InRange) : m.writeNext.InRange := by
  obtain hkept | ⟨w, -, hstored⟩ := m.writeNext_cases
  · rwa [hkept]
  · rw [hstored]
    exact h.store _ _

theorem I2c.InRange.tickNext (h : m.InRange) : m.tickNext.InRange :=
  have hread : ({ m with port := m.port.readNext m.regValue } : I2c).InRange := { h with }
  { hread.stateNext.writeNext with }

end I2cInRange

section GenInRange

variable {m : Gen}

theorem Gen.InRange.stateTick (h : m.InRange) : m.stateTick.InRange := by
  unfold Gen.stateTick
  split
  · exact { h with base := (h.base.load _).tickCounter _ }
  · exact { h with base := (h.base.shiftIf _).tickCounter _ }

theorem Gen.InRange.applyReset (h : m.InRange) : m.applyReset.InRange :=
  { h with base := (Gen.powerUp_inRange h.par).base.withFaultFlag _ }

theorem Gen.InRange.stateNext (h : m.InRange) : m.stateNext.InRange := by
  unfold Gen.stateNext
  split
  · exact h.applyReset
  · exact h.stateTick

theorem Gen.InRange.store (h : m.InRange) (n v : Nat) : (m.store n v).InRange := by
  unfold Gen.store
  split
  · exact { h with base := h.base.storeEndCycle v }
  · exact { h with base := h.base.storeClkHigh v }
  · exact { h with base := h.base.storeData v }
  · exact h

theorem Gen.InRange.writeNext (h : m.InRange) : m.writeNext.InRange := by
  obtain hkept | ⟨w, -, hstored⟩ := m.writeNext_cases
  · rwa [hkept]
  · rw [hstored]
    exact h.store _ _

theorem Gen.InRange.tickNext (h : m.InRange) : m.tickNext.InRange :=
  have hread : ({ m with port := m.port.readNext m.regValue } : Gen).InRange := { h with }
  { hread.stateNext.writeNext with }

end GenInRange

section AttInRange

variable {m : Att}

theorem Att.InRange.stateTick (h : m.InRange) : m.stateTick.InRange := by
  unfold Att.stateTick
  split
  · exact { h with base := (h.base.load _).tickCounter _, lcnt := Nat.two_pow_pos _ }
  · exact { h with base := (h.base.shiftIf _).tickCounter _, lcnt := Nat.two_pow_pos _ }
  · exact { h with base := h.base.tickCounter _, lcnt := trunc_lt _ _ }

theorem Att.InRange.applyReset (h : m.InRange) : m.applyReset.InRange :=
  { Att.powerUp_inRange h.par with base := (Att.powerUp_inRange h.par).base.withFaultFlag _ }

theorem Att.InRange.stateNext (h : m.InRange) : m.stateNext.InRange := by
  unfold Att.stateNext
  split
  · exact h.applyReset
  · exact h.stateTick

theorem Att.InRange.store (h : m.InRange) (n v : Nat) : (m.store n v).InRange := by
  unfold Att.store
  split
  · exact { h with base := h.base.storeEndCycle v }
  · exact { h with base := h.base.storeClkHigh v }
  · exact { h with base := h.base.storeData v }
  · exact { h with leHigh := trunc_lt _ _ }
  · exact { h with leLow := trunc_lt _ _ }
  · exact h

theorem Att.InRange.writeNext (h : m.InRange) : m.writeNext.InRange := by
  obtain hkept | ⟨w, -, hstored⟩ := m.writeNext_cases
  · rwa [hkept]
  · rw [hstored]
    exact h.store _ _

theorem Att.InRange.tickNext (h : m.InRange) : m.tickNext.InRange :=
  have hread : ({ m with port := m.port.readNext m.regValue } : Att).InRange := { h with }
  { hread.stateNext.writeNext with }

end AttInRange

section SpiInRange

variable {m : Spi}

theorem Spi.InRange.stateTick (h : m.InRange) : m.stateTick.InRange := by
  unfold Spi.stateTick
  split
  · exact { h with base := (h.base.load _).tickCounter _ }
  · exact { h with base := (h.base.shiftIf _).tickCounter _ }
  · exact { h with base := h.base.tickCounter _ }
  · exact { h with base := h.base.tickCounter _ }

theorem Spi.InRange.applyReset (h : m.InRange) : m.applyReset.InRange :=
  { h with base := (Spi.powerUp_inRange h.par).base.withFaultFlag _ }

theorem Spi.InRange.stateNext (h : m.InRange) : m.stateNext.InRange := by
  unfold Spi.stateNext
  split
  · exact h.applyReset
  · exact h.stateTick

theorem Spi.InRange.store (h : m.InRange) (n v : Nat) : (m.store n v).InRange := by
  unfold Spi.store
  split
  · exact { h with base := h.base.storeEndCycle v }
  · exact { h with base := h.base.storeClkHigh v }
  · exact { h with base := h.base.storeData v }
  all_goals exact { h with }

theorem Spi.InRange.writeNext (h : m.InRange) : m.writeNext.InRange := by
  obtain hkept | ⟨w, -, hstored⟩ := m.writeNext_cases
  · rwa [hkept]
  · rw [hstored]
    exact h.store _ _

theorem Spi.InRange.tickNext (h : m.InRange) : m.tickNext.InRange :=
  have hread : ({ m with port := m.port.readNext m.regValue } : Spi).InRange := { h with }
  { hread.stateNext.writeNext with }

end SpiInRange

theorem State.InRange.next {s : State} (h : s.InRange) : s.next.InRange :=
  ⟨h.i2c.tickNext, h.gen.tickNext, h.att.tickNext, h.spi.tickNext⟩

/-! ## A configuration register keeps its value unless the tick's write names it

The registers are spoken of by index (30_encoding.md R100), through `regValue`: a state rule keeps the value of every
index, a store that of every other index, and the synchronizer moves only the read-back. -/

@[simp] theorem Base.ite_shift_endCycle (c : Prop) [Decidable c] (b : Base) :
    (if c then b.shift else b).endCycle = b.endCycle := by split <;> simp

@[simp] theorem Base.ite_shift_clkHigh (c : Prop) [Decidable c] (b : Base) :
    (if c then b.shift else b).clkHigh = b.clkHigh := by split <;> simp

@[simp] theorem Base.ite_shift_data (c : Prop) [Decidable c] (b : Base) :
    (if c then b.shift else b).data = b.data := by split <;> simp

@[simp] theorem Port.readNext_inp (p : Port) (value : Nat → Nat) : (p.readNext value).inp = p.inp := rfl

section I2cConfig

variable {m : I2c}

/-- No state rule writes a configuration register or a synchronizer stage. -/
theorem I2c.regValue_stateTick (n : Nat) : m.stateTick.regValue n = m.regValue n := by
  unfold I2c.stateTick
  split <;> (unfold I2c.regValue; simp)

/-- A store changes the value of its own index only. -/
theorem I2c.regValue_store_of_ne {n k : Nat} (hn : n < 8) (hne : k ≠ n) (v : Nat) :
    (m.store k v).regValue n = m.regValue n := by
  unfold I2c.store
  interval_cases n
  all_goals split <;> simp_all [I2c.regValue]

theorem I2c.regValue_writeNext {k : RegIndex} (hk : k.toNat < 8)
    (hw : ∀ w, m.port.inp.cfgWr = some w → w.index ≠ k) : m.writeNext.regValue k.toNat = m.regValue k.toNat := by
  obtain hkept | ⟨w, hwr, hstored⟩ := m.writeNext_cases
  · rw [hkept]
  · rw [hstored, I2c.regValue_store_of_ne hk (BitVec.toNat_ne.1 (hw w hwr))]

theorem I2c.regValue_endNext {n : Nat} (hn : n < 8) : m.endNext.regValue n = m.regValue n := by
  interval_cases n <;> rfl

theorem I2c.regValue_tickNext {k : RegIndex} (hk : k.toNat < 8) (hr : m.port.inp.rst = false)
    (hw : ∀ w, m.port.inp.cfgWr = some w → w.index ≠ k) : m.tickNext.regValue k.toNat = m.regValue k.toNat := by
  rw [I2c.tickNext, I2c.regValue_endNext hk, I2c.regValue_writeNext hk (by simpa using hw),
    I2c.stateNext_of_noReset (by simpa using hr), I2c.regValue_stateTick]
  rfl

end I2cConfig

section GenConfig

variable {m : Gen}

/-- No state rule writes a configuration register. -/
theorem Gen.regValue_stateTick (n : Nat) : m.stateTick.regValue n = m.regValue n := by
  unfold Gen.stateTick
  split <;> (unfold Gen.regValue; simp)

/-- A store changes the value of its own index only. -/
theorem Gen.regValue_store_of_ne {n k : Nat} (hn : n < 3) (hne : k ≠ n) (v : Nat) :
    (m.store k v).regValue n = m.regValue n := by
  unfold Gen.store
  interval_cases n
  all_goals split <;> simp_all [Gen.regValue]

theorem Gen.regValue_writeNext {k : RegIndex} (hk : k.toNat < 3)
    (hw : ∀ w, m.port.inp.cfgWr = some w → w.index ≠ k) : m.writeNext.regValue k.toNat = m.regValue k.toNat := by
  obtain hkept | ⟨w, hwr, hstored⟩ := m.writeNext_cases
  · rw [hkept]
  · rw [hstored, Gen.regValue_store_of_ne hk (BitVec.toNat_ne.1 (hw w hwr))]

theorem Gen.regValue_endNext {n : Nat} (hn : n < 3) : m.endNext.regValue n = m.regValue n := by
  interval_cases n <;> rfl

theorem Gen.regValue_tickNext {k : RegIndex} (hk : k.toNat < 3) (hr : m.port.inp.rst = false)
    (hw : ∀ w, m.port.inp.cfgWr = some w → w.index ≠ k) : m.tickNext.regValue k.toNat = m.regValue k.toNat := by
  rw [Gen.tickNext, Gen.regValue_endNext hk, Gen.regValue_writeNext hk (by simpa using hw),
    Gen.stateNext_of_noReset (by simpa using hr), Gen.regValue_stateTick]
  rfl

end GenConfig

section AttConfig

variable {m : Att}

/-- No state rule writes a configuration register. -/
theorem Att.regValue_stateTick (n : Nat) : m.stateTick.regValue n = m.regValue n := by
  unfold Att.stateTick
  split <;> (unfold Att.regValue; simp)

/-- A store changes the value of its own index only. -/
theorem Att.regValue_store_of_ne {n k : Nat} (hn : n < 5) (hne : k ≠ n) (v : Nat) :
    (m.store k v).regValue n = m.regValue n := by
  unfold Att.store
  interval_cases n
  all_goals split <;> simp_all [Att.regValue]

theorem Att.regValue_writeNext {k : RegIndex} (hk : k.toNat < 5)
    (hw : ∀ w, m.port.inp.cfgWr = some w → w.index ≠ k) : m.writeNext.regValue k.toNat = m.regValue k.toNat := by
  obtain hkept | ⟨w, hwr, hstored⟩ := m.writeNext_cases
  · rw [hkept]
  · rw [hstored, Att.regValue_store_of_ne hk (BitVec.toNat_ne.1 (hw w hwr))]

theorem Att.regValue_endNext {n : Nat} (hn : n < 5) : m.endNext.regValue n = m.regValue n := by
  interval_cases n <;> rfl

theorem Att.regValue_tickNext {k : RegIndex} (hk : k.toNat < 5) (hr : m.port.inp.rst = false)
    (hw : ∀ w, m.port.inp.cfgWr = some w → w.index ≠ k) : m.tickNext.regValue k.toNat = m.regValue k.toNat := by
  rw [Att.tickNext, Att.regValue_endNext hk, Att.regValue_writeNext hk (by simpa using hw),
    Att.stateNext_of_noReset (by simpa using hr), Att.regValue_stateTick]
  rfl

end AttConfig

section SpiConfig

variable {m : Spi}

/-- No state rule writes a configuration register or a synchronizer stage. -/
theorem Spi.regValue_stateTick (n : Nat) : m.stateTick.regValue n = m.regValue n := by
  unfold Spi.stateTick
  split <;> (unfold Spi.regValue; simp)

/-- A store changes the value of its own index only. -/
theorem Spi.regValue_store_of_ne {n k : Nat} (hn : n < 5) (hne : k ≠ n) (v : Nat) :
    (m.store k v).regValue n = m.regValue n := by
  unfold Spi.store
  interval_cases n
  all_goals split <;> simp_all [Spi.regValue]

theorem Spi.regValue_writeNext {k : RegIndex} (hk : k.toNat < 5)
    (hw : ∀ w, m.port.inp.cfgWr = some w → w.index ≠ k) : m.writeNext.regValue k.toNat = m.regValue k.toNat := by
  obtain hkept | ⟨w, hwr, hstored⟩ := m.writeNext_cases
  · rw [hkept]
  · rw [hstored, Spi.regValue_store_of_ne hk (BitVec.toNat_ne.1 (hw w hwr))]

theorem Spi.regValue_endNext {n : Nat} (hn : n < 5) : m.endNext.regValue n = m.regValue n := by
  interval_cases n <;> rfl

theorem Spi.regValue_tickNext {k : RegIndex} (hk : k.toNat < 5) (hr : m.port.inp.rst = false)
    (hw : ∀ w, m.port.inp.cfgWr = some w → w.index ≠ k) : m.tickNext.regValue k.toNat = m.regValue k.toNat := by
  rw [Spi.tickNext, Spi.regValue_endNext hk, Spi.regValue_writeNext hk (by simpa using hw),
    Spi.stateNext_of_noReset (by simpa using hr), Spi.regValue_stateTick]
  rfl

end SpiConfig

theorem zextBit_inj {a b : Bool} : zextBit a = zextBit b ↔ a = b := by cases a <;> cases b <;> simp [zextBit]

/-! ## A tick of one encoder is the composition of its parts -/

theorem tickInstance_of_parts {v : Variant} {s s1 s2 s3 : State} (hread : readPart v s = .next s1)
    (hstate : statePart v s1 = .next s2) (hwrite : writePart v s2 = .next s3) :
    tickInstance v s = .next (endPart v s3) := by
  simp [tickInstance, hread, hstate, hwrite]

theorem readPart_of_noRead {v : Variant} {s : State} (h : (s.port v).inp.cfgRd = none) :
    readPart v s = .next (s.clearRdata v) := by
  simp [readPart, h]

theorem writePart_of_noWrite {v : Variant} {s : State} (h : (s.port v).inp.cfgWr = none) :
    writePart v s = .next s := by
  simp [writePart, h]

/-- The state part runs the row its state register names (10_state.md R31). -/
theorem statePart_of_fetched {v : Variant} {s : State} {i : Instr} (hrst : (s.port v).inp.rst = false)
    (hfetch : decodeState v (s.stateCode v) = some i) : statePart v s = exec i s := by
  simp [statePart, hrst, hfetch, runFetched]

@[simp] theorem State.inp_clearRdata (s : State) (v : Variant) : ((s.clearRdata v).port v).inp = (s.port v).inp := by
  cases v <;> rfl

@[simp] theorem State.stateCode_clearRdata (s : State) (v : Variant) :
    (s.clearRdata v).stateCode v = s.stateCode v := by
  cases v <;> rfl

/-- The state part leaves the inputs of the tick to the write part. -/
theorem inp_of_statePart {v : Variant} {s t : State} (h : statePart v s = .next t) :
    (t.port v).inp = (s.port v).inp := by
  rw [statePart_eq, Host.Outcome.next.injEq] at h
  subst h
  cases v <;> simp [State.port, State.stateNext]

/-- Without a reset and without accesses a tick is the fetched row, and what the end of the tick adds to it. -/
theorem tickInstance_of_quiet {v : Variant} {s t : State} {i : Instr} (hfetch : decodeState v (s.stateCode v) = some i)
    (hrst : (s.port v).inp.rst = false) (hrd : (s.port v).inp.cfgRd = none) (hwr : (s.port v).inp.cfgWr = none)
    (hexec : exec i (s.clearRdata v) = .next t) : tickInstance v s = .next (endPart v t) := by
  have hstate : statePart v (s.clearRdata v) = .next t := by
    rw [statePart_of_fetched (by simpa using hrst) (by simpa using hfetch), hexec]
  refine tickInstance_of_parts (readPart_of_noRead hrd) hstate (writePart_of_noWrite ?_)
  rw [inp_of_statePart hstate, State.inp_clearRdata, hwr]

/-- Whatever a tick of one encoder is shown to answer, it is `tickNext` of that encoder. -/
theorem tickNext_eq_of_tickInstance {v : Variant} {s t : State} (hnamed : s.AccessesNamed)
    (h : tickInstance v s = .next t) : s.tickNext v = t := by
  simpa [tickInstance_of_named v s (hnamed v)] using h

/-- A step takes each encoder from its own tick (46_host_interface.md R257). -/
theorem State.next_i2c (s : State) : s.next.i2c = (s.tickNext .i2c).i2c := rfl

theorem State.next_gen (s : State) : s.next.gen = (s.tickNext .gen).gen := rfl

theorem State.next_att (s : State) : s.next.att = (s.tickNext .att).att := rfl

theorem State.next_spi (s : State) : s.next.spi = (s.tickNext .spi).spi := rfl

/-! ## The obligations -/

/-- Settles O1: the power-up definitions hold the table of 10_state.md R50, register by register. -/
theorem powerUpValues : Obligations.PowerUpValues := fun _ =>
  ⟨⟨rfl, rfl, rfl, rfl, rfl, rfl, rfl, rfl⟩, ⟨rfl, rfl, rfl, rfl⟩, ⟨rfl, rfl, rfl, rfl, rfl, rfl, rfl, rfl⟩,
    ⟨rfl, rfl, rfl, rfl, rfl, rfl⟩⟩

/-- Settles O2: legal parameters power up in range, and the reference parameters of `State.reset` are legal. -/
theorem powerUpInRange : Obligations.PowerUpInRange :=
  ⟨fun _ h => State.powerUp_inRange h, State.powerUp_inRange (by decide)⟩

/-- Settles O27: a quiet tick of an encoder is the fetched row with the end of the tick, and the step takes each encoder
from its own tick. -/
theorem stepRunsFetchedState : Obligations.StepRunsFetchedState := by
  intro s t u i hstep
  obtain ⟨hnamed, rfl⟩ := step_eq_next.1 hstep
  have hquiet (v : Variant) (hfetch : decodeState v (s.stateCode v) = some i) (hrst : (s.port v).inp.rst = false)
      (hrd : (s.port v).inp.cfgRd = none) (hwr : (s.port v).inp.cfgWr = none)
      (hexec : exec i (s.clearRdata v) = .next t) : s.tickNext v = endPart v t :=
    tickNext_eq_of_tickInstance hnamed (tickInstance_of_quiet hfetch hrst hrd hwr hexec)
  exact ⟨fun hf hr hrd hwr hx => by rw [State.next_i2c, hquiet .i2c hf hr hrd hwr hx],
    fun hf hr hrd hwr hx => by rw [State.next_gen, hquiet .gen hf hr hrd hwr hx],
    fun hf hr hrd hwr hx => by rw [State.next_att, hquiet .att hf hr hrd hwr hx],
    fun hf hr hrd hwr hx => by rw [State.next_spi, hquiet .spi hf hr hrd hwr hx]⟩

/-- Settles O30: a step is `State.next`, and each part of the tick of each encoder keeps the widths. -/
theorem inRangeKept : Obligations.InRangeKept := by
  intro s t h hstep
  obtain ⟨-, rfl⟩ := step_eq_next.1 hstep
  exact h.next

/-- Settles O35: each register is the value of its index, which a tick that does not write that index keeps. -/
theorem configKept : Obligations.ConfigKept := by
  intro s t hstep
  obtain ⟨-, rfl⟩ := step_eq_next.1 hstep
  refine ⟨fun hr => ?i2c, fun hr => ?gen, fun hr => ?att, fun hr => ?spi⟩
  case i2c =>
    have kept (k : RegIndex) (hk : k.toNat < 8) (hw : ∀ w, s.i2c.port.inp.cfgWr = some w → w.index ≠ k) :=
      I2c.regValue_tickNext hk hr hw
    exact ⟨kept 0 (by decide), kept 1 (by decide), kept 2 (by decide), kept 3 (by decide), kept 4 (by decide),
      kept 5 (by decide), fun hw => zextBit_inj.1 (kept 6 (by decide) hw),
      fun hw => BitVec.eq_of_toNat_eq (kept 7 (by decide) hw)⟩
  case gen =>
    have kept (k : RegIndex) (hk : k.toNat < 3) (hw : ∀ w, s.gen.port.inp.cfgWr = some w → w.index ≠ k) :=
      Gen.regValue_tickNext hk hr hw
    exact ⟨kept 0 (by decide), kept 1 (by decide), kept 2 (by decide)⟩
  case att =>
    have kept (k : RegIndex) (hk : k.toNat < 5) (hw : ∀ w, s.att.port.inp.cfgWr = some w → w.index ≠ k) :=
      Att.regValue_tickNext hk hr hw
    exact ⟨kept 0 (by decide), kept 1 (by decide), kept 2 (by decide), kept 3 (by decide), kept 4 (by decide)⟩
  case spi =>
    have kept (k : RegIndex) (hk : k.toNat < 5) (hw : ∀ w, s.spi.port.inp.cfgWr = some w → w.index ≠ k) :=
      Spi.regValue_tickNext hk hr hw
    exact ⟨kept 0 (by decide), kept 1 (by decide), kept 2 (by decide),
      fun hw => zextBit_inj.1 (kept 3 (by decide) hw), fun hw => BitVec.eq_of_toNat_eq (kept 4 (by decide) hw)⟩

end Sys2Proof.Machine
end

section
/-! PROOFS. The memory of a tick (20_memory.md): what a tick's write stores and that nothing else sees it, what a tick's read
returns, the bus in front of the configuration registers, and who owns the pads. -/

namespace Sys2Proof.Machine

open Sys2Proof.Config

/-! ## The width of a configuration register -/

/-- The width of I2C register `n` (30_encoding.md R100): one bit for `bb_en`, three for `bb_out`. -/
def I2c.regWidth (m : I2c) : Nat → Nat
  | 6 => 1
  | 7 => 3
  | _ => m.par.cycleBits

/-- The width of SPI register `n` (30_encoding.md R100). -/
def Spi.regWidth (m : Spi) : Nat → Nat
  | 3 => 1
  | 4 => 3
  | _ => m.par.cycleBits

/-- `v[0]` read back is `v` truncated to one bit. -/
theorem zextBit_bit0 (v : Nat) : zextBit (bit0 v) = trunc 1 v := by
  obtain h | h := Nat.mod_two_eq_zero_or_one v <;> simp [zextBit, bit0, trunc, h]

theorem low3_toNat (v : Nat) : (low3 v).toNat = trunc 3 v := BitVec.toNat_ofNat v 3

/-- A one-bit register that reads as the low bit of `v` holds it. -/
theorem eq_of_zextBit_eq_trunc {b : Bool} {v : Nat} (h : zextBit b = trunc 1 v) : b = decide (v % 2 = 1) := by
  have hb : b = bit0 v := zextBit_inj.1 (h.trans (zextBit_bit0 v).symm)
  rw [hb, bit0, Nat.testBit_zero]

theorem eq_of_toNat_eq_trunc {x : BitVec 3} {v : Nat} (h : x.toNat = trunc 3 v) : x = BitVec.ofNat 3 v :=
  BitVec.eq_of_toNat_eq (h.trans (low3_toNat v).symm)

/-! ## A written register holds the value, truncated to its width, from the next tick (20_memory.md R83) -/

section I2cWritten

variable {m : I2c} {w : CfgWrite}

/-- A store puts the truncated value into the register of its index. -/
theorem I2c.regValue_store_self {n : Nat} (hn : n < 8) (v : Nat) :
    (m.store n v).regValue n = trunc (m.regWidth n) v := by
  match n, hn with
  | 0, _ | 1, _ | 2, _ | 3, _ | 4, _ | 5, _ => rfl
  | 6, _ => exact zextBit_bit0 v
  | 7, _ => exact low3_toNat v

theorem I2c.writeNext_of_write (hr : m.port.inp.rst = false) (hw : m.port.inp.cfgWr = some w) :
    m.writeNext = m.store w.index.toNat w.value := by
  simp [I2c.writeNext, hr, hw]

@[simp] theorem I2c.stateNext_par (m : I2c) : m.stateNext.par = m.par := by
  unfold I2c.stateNext I2c.stateTick
  split
  · rfl
  · split <;> rfl

theorem I2c.regValue_tickNext_of_write {k : RegIndex} (hk : k.toNat < 8) (hr : m.port.inp.rst = false)
    (hw : m.port.inp.cfgWr = some w) (hi : w.index = k) :
    m.tickNext.regValue k.toNat = trunc (m.regWidth k.toNat) w.value := by
  subst hi
  rw [I2c.tickNext, I2c.regValue_endNext hk, I2c.writeNext_of_write (by simpa using hr) (by simpa using hw),
    I2c.regValue_store_self hk]
  simp only [I2c.regWidth, I2c.stateNext_par]

end I2cWritten

section GenWritten

variable {m : Gen} {w : CfgWrite}

/-- A store puts the truncated value into the register of its index. -/
theorem Gen.regValue_store_self {n : Nat} (hn : n < 3) (v : Nat) :
    (m.store n v).regValue n = trunc m.par.cycleBits v := by
  interval_cases n <;> rfl

theorem Gen.writeNext_of_write (hr : m.port.inp.rst = false) (hw : m.port.inp.cfgWr = some w) :
    m.writeNext = m.store w.index.toNat w.value := by
  simp [Gen.writeNext, hr, hw]

@[simp] theorem Gen.stateNext_par (m : Gen) : m.stateNext.par = m.par := by
  unfold Gen.stateNext Gen.stateTick
  split
  · rfl
  · split <;> rfl

theorem Gen.regValue_tickNext_of_write {k : RegIndex} (hk : k.toNat < 3) (hr : m.port.inp.rst = false)
    (hw : m.port.inp.cfgWr = some w) (hi : w.index = k) :
    m.tickNext.regValue k.toNat = trunc m.par.cycleBits w.value := by
  subst hi
  rw [Gen.tickNext, Gen.regValue_endNext hk, Gen.writeNext_of_write (by simpa using hr) (by simpa using hw),
    Gen.regValue_store_self hk, Gen.stateNext_par]

end GenWritten

section AttWritten

variable {m : Att} {w : CfgWrite}

/-- A store puts the truncated value into the register of its index. -/
theorem Att.regValue_store_self {n : Nat} (hn : n < 5) (v : Nat) :
    (m.store n v).regValue n = trunc m.par.cycleBits v := by
  interval_cases n <;> rfl

theorem Att.writeNext_of_write (hr : m.port.inp.rst = false) (hw : m.port.inp.cfgWr = some w) :
    m.writeNext = m.store w.index.toNat w.value := by
  simp [Att.writeNext, hr, hw]

@[simp] theorem Att.stateNext_par (m : Att) : m.stateNext.par = m.par := by
  unfold Att.stateNext Att.stateTick
  split
  · rfl
  · split <;> rfl

theorem Att.regValue_tickNext_of_write {k : RegIndex} (hk : k.toNat < 5) (hr : m.port.inp.rst = false)
    (hw : m.port.inp.cfgWr = some w) (hi : w.index = k) :
    m.tickNext.regValue k.toNat = trunc m.par.cycleBits w.value := by
  subst hi
  rw [Att.tickNext, Att.regValue_endNext hk, Att.writeNext_of_write (by simpa using hr) (by simpa using hw),
    Att.regValue_store_self hk, Att.stateNext_par]

end AttWritten

section SpiWritten

variable {m : Spi} {w : CfgWrite}

/-- A store puts the truncated value into the register of its index. -/
theorem Spi.regValue_store_self {n : Nat} (hn : n < 5) (v : Nat) :
    (m.store n v).regValue n = trunc (m.regWidth n) v := by
  match n, hn with
  | 0, _ | 1, _ | 2, _ => rfl
  | 3, _ => exact zextBit_bit0 v
  | 4, _ => exact low3_toNat v

theorem Spi.writeNext_of_write (hr : m.port.inp.rst = false) (hw : m.port.inp.cfgWr = some w) :
    m.writeNext = m.store w.index.toNat w.value := by
  simp [Spi.writeNext, hr, hw]

@[simp] theorem Spi.stateNext_par (m : Spi) : m.stateNext.par = m.par := by
  unfold Spi.stateNext Spi.stateTick
  split
  · rfl
  · split <;> rfl

theorem Spi.regValue_tickNext_of_write {k : RegIndex} (hk : k.toNat < 5) (hr : m.port.inp.rst = false)
    (hw : m.port.inp.cfgWr = some w) (hi : w.index = k) :
    m.tickNext.regValue k.toNat = trunc (m.regWidth k.toNat) w.value := by
  subst hi
  rw [Spi.tickNext, Spi.regValue_endNext hk, Spi.writeNext_of_write (by simpa using hr) (by simpa using hw),
    Spi.regValue_store_self hk]
  simp only [Spi.regWidth, Spi.stateNext_par]

end SpiWritten

/-! ## A write is unseen in its own tick (20_memory.md R83)

A tick with a write is the tick without it, with the configuration registers of the tick with it (`withConfigOf`): the state
rule does not read the write, the write touches configuration registers only, and the end of the tick reads none of them. -/

/-- The host's side without the tick's write. -/
def Port.withoutWrite (p : Port) : Port := { p with inp := { p.inp with cfgWr := none } }

/-- The registers of `b`, with the three common timing registers of `c`. -/
def Base.withTimingOf (b c : Base) : Base := { b with endCycle := c.endCycle, clkHigh := c.clkHigh, data := c.data }

/-- The registers of `x`, with the timing registers of `y`. -/
def Serial.withTimingOf (x y : Serial) : Serial := { x with base := x.base.withTimingOf y.base }

/-- The synchronizer stages of `o`, with the bit-bang registers of `q`. -/
def Overlay.withBitBangOf (o q : Overlay) : Overlay := { o with bbEn := q.bbEn, bbOut := q.bbOut }

def I2c.withoutWrite (m : I2c) : I2c := { m with port := m.port.withoutWrite }

def Gen.withoutWrite (m : Gen) : Gen := { m with port := m.port.withoutWrite }

def Att.withoutWrite (m : Att) : Att := { m with port := m.port.withoutWrite }

def Spi.withoutWrite (m : Spi) : Spi := { m with port := m.port.withoutWrite }

/-- `m` with the configuration registers of `q`. -/
def I2c.withConfigOf (m q : I2c) : I2c :=
  { m with base := m.base.withTimingOf q.base, start := q.start, stopLow := q.stopLow, stopHigh := q.stopHigh,
           overlay := m.overlay.withBitBangOf q.overlay }

def Gen.withConfigOf (m q : Gen) : Gen := { m with serial := m.serial.withTimingOf q.serial }

def Att.withConfigOf (m q : Att) : Att :=
  { m with serial := m.serial.withTimingOf q.serial, leHigh := q.leHigh, leLow := q.leLow }

def Spi.withConfigOf (m q : Spi) : Spi :=
  { m with serial := m.serial.withTimingOf q.serial, overlay := m.overlay.withBitBangOf q.overlay }

section I2cWriteUnseen

variable (m : I2c)

theorem I2c.stateTick_withoutWrite : m.withoutWrite.stateTick = m.stateTick.withoutWrite := by
  cases m with
  | mk par state => cases state <;> rfl

/-- The state rule and the reset do not read the tick's write. -/
theorem I2c.stateNext_withoutWrite : m.withoutWrite.stateNext = m.stateNext.withoutWrite := by
  have hreset : m.withoutWrite.applyReset = m.applyReset.withoutWrite := rfl
  unfold I2c.stateNext
  rw [I2c.stateTick_withoutWrite, hreset]
  exact (apply_ite I2c.withoutWrite (m.port.inp.rst = true) _ _).symm

/-- The tick's write changes configuration registers only. -/
theorem I2c.writeNext_eq_withConfigOf : m.writeNext = m.withConfigOf m.writeNext := by
  obtain hkept | ⟨w, -, hstored⟩ := m.writeNext_cases
  · rw [hkept]
    rfl
  · rw [hstored]
    unfold I2c.store
    split <;> rfl

@[simp] theorem I2c.writeNext_port : m.writeNext.port = m.port := by
  rw [I2c.writeNext_eq_withConfigOf]
  rfl

/-- The end of the tick reads no configuration register and writes none. -/
theorem I2c.endNext_withConfigOf (q : I2c) : (m.withConfigOf q).endNext = m.endNext.withConfigOf q.endNext := rfl

/-- A tick without a write is its read, its state rule and its end. -/
theorem I2c.tickNext_withoutWrite :
    m.withoutWrite.tickNext = ({ m with port := m.port.readNext m.regValue } : I2c).stateNext.endNext := by
  calc m.withoutWrite.tickNext
      = ({ m with port := m.port.readNext m.regValue } : I2c).withoutWrite.stateNext.writeNext.endNext := rfl
    _ = ({ m with port := m.port.readNext m.regValue } : I2c).stateNext.withoutWrite.writeNext.endNext := by
      rw [I2c.stateNext_withoutWrite]
    _ = ({ m with port := m.port.readNext m.regValue } : I2c).stateNext.endNext := rfl

theorem I2c.tickNext_eq_withConfigOf : m.tickNext = m.withoutWrite.tickNext.withConfigOf m.tickNext := by
  rw [I2c.tickNext_withoutWrite, I2c.tickNext, ← I2c.endNext_withConfigOf, ← I2c.writeNext_eq_withConfigOf]

end I2cWriteUnseen

section GenWriteUnseen

variable (m : Gen)

theorem Gen.stateTick_withoutWrite : m.withoutWrite.stateTick = m.stateTick.withoutWrite := by
  cases m with
  | mk par state => cases state <;> rfl

/-- The state rule and the reset do not read the tick's write. -/
theorem Gen.stateNext_withoutWrite : m.withoutWrite.stateNext = m.stateNext.withoutWrite := by
  have hreset : m.withoutWrite.applyReset = m.applyReset.withoutWrite := rfl
  unfold Gen.stateNext
  rw [Gen.stateTick_withoutWrite, hreset]
  exact (apply_ite Gen.withoutWrite (m.port.inp.rst = true) _ _).symm

/-- The tick's write changes configuration registers only. -/
theorem Gen.writeNext_eq_withConfigOf : m.writeNext = m.withConfigOf m.writeNext := by
  obtain hkept | ⟨w, -, hstored⟩ := m.writeNext_cases
  · rw [hkept]
    rfl
  · rw [hstored]
    unfold Gen.store
    split <;> rfl

@[simp] theorem Gen.writeNext_port : m.writeNext.port = m.port := by
  rw [Gen.writeNext_eq_withConfigOf]
  rfl

/-- The end of the tick reads no configuration register and writes none. -/
theorem Gen.endNext_withConfigOf (q : Gen) : (m.withConfigOf q).endNext = m.endNext.withConfigOf q.endNext := rfl

/-- A tick without a write is its read, its state rule and its end. -/
theorem Gen.tickNext_withoutWrite :
    m.withoutWrite.tickNext = ({ m with port := m.port.readNext m.regValue } : Gen).stateNext.endNext := by
  calc m.withoutWrite.tickNext
      = ({ m with port := m.port.readNext m.regValue } : Gen).withoutWrite.stateNext.writeNext.endNext := rfl
    _ = ({ m with port := m.port.readNext m.regValue } : Gen).stateNext.withoutWrite.writeNext.endNext := by
      rw [Gen.stateNext_withoutWrite]
    _ = ({ m with port := m.port.readNext m.regValue } : Gen).stateNext.endNext := rfl

theorem Gen.tickNext_eq_withConfigOf : m.tickNext = m.withoutWrite.tickNext.withConfigOf m.tickNext := by
  rw [Gen.tickNext_withoutWrite, Gen.tickNext, ← Gen.endNext_withConfigOf, ← Gen.writeNext_eq_withConfigOf]

end GenWriteUnseen

section AttWriteUnseen

variable (m : Att)

theorem Att.stateTick_withoutWrite : m.withoutWrite.stateTick = m.stateTick.withoutWrite := by
  cases m with
  | mk par state => cases state <;> rfl

/-- The state rule and the reset do not read the tick's write. -/
theorem Att.stateNext_withoutWrite : m.withoutWrite.stateNext = m.stateNext.withoutWrite := by
  have hreset : m.withoutWrite.applyReset = m.applyReset.withoutWrite := rfl
  unfold Att.stateNext
  rw [Att.stateTick_withoutWrite, hreset]
  exact (apply_ite Att.withoutWrite (m.port.inp.rst = true) _ _).symm

/-- The tick's write changes configuration registers only. -/
theorem Att.writeNext_eq_withConfigOf : m.writeNext = m.withConfigOf m.writeNext := by
  obtain hkept | ⟨w, -, hstored⟩ := m.writeNext_cases
  · rw [hkept]
    rfl
  · rw [hstored]
    unfold Att.store
    split <;> rfl

@[simp] theorem Att.writeNext_port : m.writeNext.port = m.port := by
  rw [Att.writeNext_eq_withConfigOf]
  rfl

/-- The end of the tick reads no configuration register and writes none. -/
theorem Att.endNext_withConfigOf (q : Att) : (m.withConfigOf q).endNext = m.endNext.withConfigOf q.endNext := rfl

/-- A tick without a write is its read, its state rule and its end. -/
theorem Att.tickNext_withoutWrite :
    m.withoutWrite.tickNext = ({ m with port := m.port.readNext m.regValue } : Att).stateNext.endNext := by
  calc m.withoutWrite.tickNext
      = ({ m with port := m.port.readNext m.regValue } : Att).withoutWrite.stateNext.writeNext.endNext := rfl
    _ = ({ m with port := m.port.readNext m.regValue } : Att).stateNext.withoutWrite.writeNext.endNext := by
      rw [Att.stateNext_withoutWrite]
    _ = ({ m with port := m.port.readNext m.regValue } : Att).stateNext.endNext := rfl

theorem Att.tickNext_eq_withConfigOf : m.tickNext = m.withoutWrite.tickNext.withConfigOf m.tickNext := by
  rw [Att.tickNext_withoutWrite, Att.tickNext, ← Att.endNext_withConfigOf, ← Att.writeNext_eq_withConfigOf]

end AttWriteUnseen

section SpiWriteUnseen

variable (m : Spi)

theorem Spi.stateTick_withoutWrite : m.withoutWrite.stateTick = m.stateTick.withoutWrite := by
  cases m with
  | mk par state => cases state <;> rfl

/-- The state rule and the reset do not read the tick's write. -/
theorem Spi.stateNext_withoutWrite : m.withoutWrite.stateNext = m.stateNext.withoutWrite := by
  have hreset : m.withoutWrite.applyReset = m.applyReset.withoutWrite := rfl
  unfold Spi.stateNext
  rw [Spi.stateTick_withoutWrite, hreset]
  exact (apply_ite Spi.withoutWrite (m.port.inp.rst = true) _ _).symm

/-- The tick's write changes configuration registers only. -/
theorem Spi.writeNext_eq_withConfigOf : m.writeNext = m.withConfigOf m.writeNext := by
  obtain hkept | ⟨w, -, hstored⟩ := m.writeNext_cases
  · rw [hkept]
    rfl
  · rw [hstored]
    unfold Spi.store
    split <;> rfl

@[simp] theorem Spi.writeNext_port : m.writeNext.port = m.port := by
  rw [Spi.writeNext_eq_withConfigOf]
  rfl

/-- The end of the tick reads no configuration register and writes none. -/
theorem Spi.endNext_withConfigOf (q : Spi) : (m.withConfigOf q).endNext = m.endNext.withConfigOf q.endNext := rfl

/-- A tick without a write is its read, its state rule and its end. -/
theorem Spi.tickNext_withoutWrite :
    m.withoutWrite.tickNext = ({ m with port := m.port.readNext m.regValue } : Spi).stateNext.endNext := by
  calc m.withoutWrite.tickNext
      = ({ m with port := m.port.readNext m.regValue } : Spi).withoutWrite.stateNext.writeNext.endNext := rfl
    _ = ({ m with port := m.port.readNext m.regValue } : Spi).stateNext.withoutWrite.writeNext.endNext := by
      rw [Spi.stateNext_withoutWrite]
    _ = ({ m with port := m.port.readNext m.regValue } : Spi).stateNext.endNext := rfl

theorem Spi.tickNext_eq_withConfigOf : m.tickNext = m.withoutWrite.tickNext.withConfigOf m.tickNext := by
  rw [Spi.tickNext_withoutWrite, Spi.tickNext, ← Spi.endNext_withConfigOf, ← Spi.writeNext_eq_withConfigOf]

end SpiWriteUnseen

/-! ## A read returns the value at the start of the tick (20_memory.md R84) -/

@[simp] theorem I2c.endNext_rdata (m : I2c) : m.endNext.port.rdata = m.port.rdata := rfl

@[simp] theorem Gen.endNext_rdata (m : Gen) : m.endNext.port.rdata = m.port.rdata := rfl

@[simp] theorem Att.endNext_rdata (m : Att) : m.endNext.port.rdata = m.port.rdata := rfl

@[simp] theorem Spi.endNext_rdata (m : Spi) : m.endNext.port.rdata = m.port.rdata := rfl

/-- The state rule or reset, the write and the end of the tick leave the read data as the read part put it. -/
theorem State.rdata_next (s : State) (v : Variant) : (s.next.port v).rdata = ((s.readNext v).port v).rdata := by
  cases v <;>
    simp [State.port, State.next, State.readNext, I2c.tickNext, Gen.tickNext, Att.tickNext, Spi.tickNext]

theorem State.rdata_readNext_isSome {s : State} {v : Variant} {r : RegIndex} (h : (s.port v).inp.cfgRd = some r) :
    ((s.readNext v).port v).rdata.isSome = true := by
  cases v <;> simp_all [State.port, State.readNext, Port.readNext]

/-- The read part of a tick runs the register row that the read names. -/
theorem readPart_of_read {v : Variant} {s : State} {r : RegIndex} {j : Instr} (hrd : (s.port v).inp.cfgRd = some r)
    (hj : decodeCfg v r.toNat .read = some j) : readPart v s = exec j s := by
  simp [readPart, hrd, hj, runAccess]

/-! ## The bus (20_memory.md R72, R73) -/

/-- In an injective map an address belongs to one entry. -/
theorem CfgMap.eq_of_address_eq {m : CfgMap} (hm : m.Injective) {e e' : MapEntry} (he : e ∈ m) (he' : e' ∈ m)
    (h : e.address = e'.address) : e = e' := by
  have hnodup : (m.map MapEntry.address).Nodup := List.pairwise_map.2 (hm.imp fun hab => hab.2)
  exact List.inj_on_of_nodup_map hnodup he he' h

theorem CfgMap.find?_address {m : CfgMap} (hm : m.Injective) {e : MapEntry} (he : e ∈ m) :
    m.find? (fun x => x.address == e.address) = some e := by
  obtain ⟨e', hfind⟩ := Option.isSome_iff_exists.1 (List.find?_isSome (p := fun x => x.address == e.address).2
    ⟨e, he, beq_self_eq_true _⟩)
  have haddr : e'.address = e.address := by simpa using List.find?_some hfind
  rw [hfind, CfgMap.eq_of_address_eq hm (List.mem_of_find?_eq_some hfind) he haddr]

theorem CfgMap.find?_address_eq_none {m : CfgMap} {x : Nat} (h : ∀ e ∈ m, e.address ≠ x) :
    m.find? (fun e => e.address == x) = none :=
  List.find?_eq_none.2 fun e he => by simpa using h e he

/-! ## The pads (20_memory.md R93) -/

/-- The data wire is released in the ACK state only (42_i2c_encoder.md R163). -/
theorem I2c.sdaOe_eq (m : I2c) : m.sdaOe = decide (m.state ≠ .ack) := by
  unfold I2c.sdaOe
  cases m.state <;> rfl

theorem I2c.pads_of_bbEn_false {m : I2c} (h : m.overlay.bbEn = false) :
    m.pads = { scl := m.scl, sdaO := m.sdaO, sdaOe := m.sdaOe } := by
  simp [I2c.pads, h]

theorem I2c.pads_of_bbEn {m : I2c} (h : m.overlay.bbEn = true) :
    m.pads = { scl := m.overlay.bbOut.getLsbD 0, sdaO := m.overlay.bbOut.getLsbD 1,
               sdaOe := m.overlay.bbOut.getLsbD 2 } := by
  simp [I2c.pads, h]

theorem Spi.pads_of_bbEn_false {m : Spi} (h : m.overlay.bbEn = false) :
    m.pads = { clk := m.serial.clk, sdo := m.serial.sdo, csn := m.csn } := by
  simp [Spi.pads, h]

theorem Spi.pads_of_bbEn {m : Spi} (h : m.overlay.bbEn = true) :
    m.pads = { clk := m.overlay.bbOut.getLsbD 0, sdo := m.overlay.bbOut.getLsbD 1,
               csn := m.overlay.bbOut.getLsbD 2 } := by
  simp [Spi.pads, h]

/-! ## The obligations -/

/-- Settles O29: the next value of each encoder is a function of that encoder alone. -/
theorem instancesIndependent : Obligations.InstancesIndependent := by
  intro s s' t t' hstep hstep'
  obtain ⟨-, rfl⟩ := step_eq_next.1 hstep
  obtain ⟨-, rfl⟩ := step_eq_next.1 hstep'
  exact ⟨congrArg I2c.tickNext, congrArg Gen.tickNext, congrArg Att.tickNext, congrArg Spi.tickNext⟩

/-- Settles O36: each register is the value of its index, and the tick's write stores into the index it names. -/
theorem configWrittenNextTick : Obligations.ConfigWrittenNextTick := by
  intro s t w hstep
  obtain ⟨-, rfl⟩ := step_eq_next.1 hstep
  refine ⟨fun hr hw => ?i2c, fun hr hw => ?gen, fun hr hw => ?att, fun hr hw => ?spi⟩
  case i2c =>
    have written (k : RegIndex) (hk : k.toNat < 8) := I2c.regValue_tickNext_of_write hk hr hw
    exact ⟨written 0 (by decide), written 1 (by decide), written 2 (by decide), written 3 (by decide),
      written 4 (by decide), written 5 (by decide), fun hi => eq_of_zextBit_eq_trunc (written 6 (by decide) hi),
      fun hi => eq_of_toNat_eq_trunc (written 7 (by decide) hi)⟩
  case gen =>
    have written (k : RegIndex) (hk : k.toNat < 3) := Gen.regValue_tickNext_of_write hk hr hw
    exact ⟨written 0 (by decide), written 1 (by decide), written 2 (by decide)⟩
  case att =>
    have written (k : RegIndex) (hk : k.toNat < 5) := Att.regValue_tickNext_of_write hk hr hw
    exact ⟨written 0 (by decide), written 1 (by decide), written 2 (by decide), written 3 (by decide),
      written 4 (by decide)⟩
  case spi =>
    have written (k : RegIndex) (hk : k.toNat < 5) := Spi.regValue_tickNext_of_write hk hr hw
    exact ⟨written 0 (by decide), written 1 (by decide), written 2 (by decide),
      fun hi => eq_of_zextBit_eq_trunc (written 3 (by decide) hi),
      fun hi => eq_of_toNat_eq_trunc (written 4 (by decide) hi)⟩

/-- Settles O39: the row the read names is the read part of the tick, and no later part touches the read data. -/
theorem readSeesOldValue : Obligations.ReadSeesOldValue := by
  intro v s t t1 r j hstep hrd hj hexec
  obtain ⟨hnamed, rfl⟩ := step_eq_next.1 hstep
  have hread : readPart v s = .next t1 := (readPart_of_read hrd hj).trans hexec
  rw [readPart_of_named v s (hnamed v).1, Host.Outcome.next.injEq] at hread
  subst hread
  exact ⟨s.rdata_next v, State.rdata_readNext_isSome hrd⟩

/-- Settles O56: the bus looks the address up in the map, and injectivity leaves one entry to find. -/
theorem busAddressNamesRegister : Obligations.BusAddressNamesRegister := by
  intro m a hm
  refine ⟨fun e he => ?held, fun x hx => ?unheld⟩
  case held => rw [busInstr, CfgMap.find?_address hm he]
  case unheld => rw [busInstr, CfgMap.find?_address_eq_none hx]

/-- Settles O59: each encoder's tick with the write is its tick without it, up to the configuration registers. -/
theorem writeUnseenInItsTick : Obligations.WriteUnseenInItsTick := by
  intro s t u hstep hstep'
  obtain ⟨-, rfl⟩ := step_eq_next.1 hstep
  obtain ⟨-, rfl⟩ := step_eq_next.1 hstep'
  exact ⟨s.i2c.tickNext_eq_withConfigOf, s.gen.tickNext_eq_withConfigOf, s.att.tickNext_eq_withConfigOf,
    s.spi.tickNext_eq_withConfigOf⟩

/-- Settles O46: `bb_en` selects the encoder's lines or the bit-bang bits; GEN and ATT have no overlay. -/
theorem padOwnership : Obligations.PadOwnership := by
  intro s
  refine ⟨fun h => ?_, I2c.pads_of_bbEn, Spi.pads_of_bbEn_false, Spi.pads_of_bbEn, rfl, rfl⟩
  rw [I2c.pads_of_bbEn_false h, I2c.sdaOe_eq]

end Sys2Proof.Machine
end

section
/-! PROOFS. The encoding (30_encoding.md): which numbers are codes, the byte form of every instruction and its decoder, and the
statements of the host script. -/

namespace Sys2Proof

/-! ## Which numbers name a state or a register (30_encoding.md R95, R97, R100, R110) -/

/-- The number of states of a variant (30_encoding.md R95). -/
def Variant.stateCount : Variant → Nat
  | .i2c => 5
  | .gen => 2
  | .att => 3
  | .spi => 4

/-- The number of configuration registers of a variant (30_encoding.md R100). -/
def Variant.registerCount : Variant → Nat
  | .i2c => 9
  | .gen => 3
  | .att => 5
  | .spi => 6

/-- A code is fetched as a row that has this code, in the same variant. -/
theorem row_of_decodeState {v : Variant} {c : Nat} {i : Instr} (h : decodeState v c = some i) : i.row = .state v c := by
  unfold decodeState at h
  split at h <;> cases h <;> rfl

theorem decodeState_isSome_iff (v : Variant) (n : Nat) : (decodeState v n).isSome ↔ n < v.stateCount := by
  constructor
  case mp =>
    unfold decodeState
    split <;> simp [Variant.stateCount]
  case mpr =>
    intro h
    cases v <;> simp only [Variant.stateCount] at h <;> interval_cases n <;> rfl

theorem decodeCfg_isSome_iff (v : Variant) (n : Nat) (a : CfgAccess) :
    (decodeCfg v n a).isSome ↔ n < v.registerCount := by
  constructor
  case mp =>
    intro h
    have hle := Machine.index_le_of_decodeCfg h
    cases v <;> exact Nat.lt_succ_of_le hle
  case mpr =>
    intro h
    cases v <;> simp only [Variant.registerCount] at h <;> interval_cases n <;> rfl

/-! ## Every row of the table is read back from its header -/

open Laws in
/-- Every row, from its own fact in Laws/PerInstr.lean. -/
theorem Instr.headerDecodes : ∀ i : Instr, HeaderDecodes.Statement i
  | .i2cWait => HeaderDecodes.i2cWait
  | .i2cStart => HeaderDecodes.i2cStart
  | .i2cTransfer => HeaderDecodes.i2cTransfer
  | .i2cAck => HeaderDecodes.i2cAck
  | .i2cStop => HeaderDecodes.i2cStop
  | .genWait => HeaderDecodes.genWait
  | .genTransfer => HeaderDecodes.genTransfer
  | .attWait => HeaderDecodes.attWait
  | .attTransfer => HeaderDecodes.attTransfer
  | .attLatch => HeaderDecodes.attLatch
  | .spiWait => HeaderDecodes.spiWait
  | .spiTransfer => HeaderDecodes.spiTransfer
  | .spiFirstclk => HeaderDecodes.spiFirstclk
  | .spiCsnHi => HeaderDecodes.spiCsnHi
  | .cfgI2cEndCycle a => HeaderDecodes.cfgI2cEndCycle a
  | .cfgI2cClkHigh a => HeaderDecodes.cfgI2cClkHigh a
  | .cfgI2cData a => HeaderDecodes.cfgI2cData a
  | .cfgI2cStart a => HeaderDecodes.cfgI2cStart a
  | .cfgI2cStopLow a => HeaderDecodes.cfgI2cStopLow a
  | .cfgI2cStopHigh a => HeaderDecodes.cfgI2cStopHigh a
  | .cfgI2cBbEn a => HeaderDecodes.cfgI2cBbEn a
  | .cfgI2cBbOut a => HeaderDecodes.cfgI2cBbOut a
  | .cfgI2cSdaIn a => HeaderDecodes.cfgI2cSdaIn a
  | .cfgGenEndCycle a => HeaderDecodes.cfgGenEndCycle a
  | .cfgGenClkHigh a => HeaderDecodes.cfgGenClkHigh a
  | .cfgGenData a => HeaderDecodes.cfgGenData a
  | .cfgAttEndCycle a => HeaderDecodes.cfgAttEndCycle a
  | .cfgAttClkHigh a => HeaderDecodes.cfgAttClkHigh a
  | .cfgAttData a => HeaderDecodes.cfgAttData a
  | .cfgAttLeHigh a => HeaderDecodes.cfgAttLeHigh a
  | .cfgAttLeLow a => HeaderDecodes.cfgAttLeLow a
  | .cfgSpiEndCycle a => HeaderDecodes.cfgSpiEndCycle a
  | .cfgSpiClkHigh a => HeaderDecodes.cfgSpiClkHigh a
  | .cfgSpiData a => HeaderDecodes.cfgSpiData a
  | .cfgSpiBbEn a => HeaderDecodes.cfgSpiBbEn a
  | .cfgSpiBbOut a => HeaderDecodes.cfgSpiBbOut a
  | .cfgSpiSdiIn a => HeaderDecodes.cfgSpiSdiIn a

/-- The code byte and the context byte of an instruction name its row. -/
theorem Instr.rowIn_header_bytes (i : Instr) :
    rowIn (BitVec.ofNat 8 i.row.context).toNat (BitVec.ofNat 8 i.row.code).toNat = .ok i.row := by
  obtain ⟨hcode, hcontext, hrow, -⟩ := i.headerDecodes
  rwa [BitVec.toNat_ofNat, BitVec.toNat_ofNat, Nat.mod_eq_of_lt hcontext, Nat.mod_eq_of_lt hcode]

/-- An instruction is a state row without an access or a register row with one, and its row decodes to it. -/
theorem Instr.decode_row_cases (i : Instr) :
    (∃ v c, i.row = .state v c ∧ i.access = none ∧ decodeState v c = some i) ∨
    (∃ v c a, i.row = .cfg v c ∧ i.access = some a ∧ decodeCfg v c a = some i) := by
  obtain ⟨-, -, -, hdecodes⟩ := i.headerDecodes
  cases hrow : i.row with
  | state v c =>
    cases haccess : i.access with
    | none => exact .inl ⟨v, c, rfl, rfl, by simpa [hrow, haccess] using hdecodes⟩
    | some a => simp [hrow, haccess] at hdecodes
  | cfg v c =>
    cases haccess : i.access with
    | none => simp [hrow, haccess] at hdecodes
    | some a => exact .inr ⟨v, c, a, rfl, rfl, by simpa [hrow, haccess] using hdecodes⟩

/-! ## The access operand is read back from its bytes

The value bytes are the digits of the value in base 256, lowest first. -/

theorem ofDigits_bytesOf (n v : Nat) : Nat.ofDigits 256 ((bytesOf n v).map BitVec.toNat) = v % 256 ^ n := by
  induction n generalizing v with
  | zero => simp [bytesOf, Nat.mod_one]
  | succ n ih => simp [bytesOf, Nat.ofDigits_cons, ih, Nat.pow_succ', Nat.mod_mul]

theorem valueOfBytes_eq_ofDigits (b0 b1 b2 b3 b4 b5 b6 b7 : Byte) :
    valueOfBytes b0 b1 b2 b3 b4 b5 b6 b7 = Nat.ofDigits 256 ([b0, b1, b2, b3, b4, b5, b6, b7].map BitVec.toNat) := by
  simp [valueOfBytes, Nat.ofDigits_cons]

/-- The eight value bytes carry the value modulo 2^64. -/
theorem decodeAccess_encodeAccess_write (v : Nat) (rest : List Byte) :
    decodeAccess (encodeAccess (.write v) ++ rest) = .ok (.write (v % valueBound), rest) := by
  have hvalue : Nat.ofDigits 256 ((bytesOf 8 v).map BitVec.toNat) = v % valueBound := ofDigits_bytesOf 8 v
  rw [← hvalue]
  simp only [encodeAccess, bytesOf, List.cons_append, List.nil_append, decodeAccess, valueOfBytes_eq_ofDigits]
  rfl

theorem decodeAccess_encodeAccess {a : CfgAccess} (h : a.wellFormed = true) (rest : List Byte) :
    decodeAccess (encodeAccess a ++ rest) = .ok (a, rest) := by
  cases a with
  | read => rfl
  | write v =>
    have hv : v < valueBound := of_decide_eq_true h
    rw [decodeAccess_encodeAccess_write, Nat.mod_eq_of_lt hv]

/-! ## The decoder and the encoder, by the kind of the row -/

theorem decode_stateRow {code context : Byte} {v : Variant} {c : Nat} {i : Instr} (rest : List Byte)
    (hrow : rowIn context.toNat code.toNat = .ok (.state v c)) (hi : decodeState v c = some i) :
    decode (code :: context :: rest) = .ok (i, rest) := by
  simp [decode, hrow, hi]

theorem decode_cfgRow {code context : Byte} {v : Variant} {c : Nat} {i : Instr} {a : CfgAccess} {bytes rest : List Byte}
    (hrow : rowIn context.toNat code.toNat = .ok (.cfg v c)) (ha : decodeAccess bytes = .ok (a, rest))
    (hi : decodeCfg v c a = some i) : decode (code :: context :: bytes) = .ok (i, rest) := by
  simp [decode, hrow, ha, hi]

theorem encode_of_noAccess {i : Instr} (h : i.access = none) :
    encode i = [BitVec.ofNat 8 i.row.code, BitVec.ofNat 8 i.row.context] := by
  simp [encode, h]

theorem encode_of_access {i : Instr} {a : CfgAccess} (h : i.access = some a) :
    encode i = BitVec.ofNat 8 i.row.code :: BitVec.ofNat 8 i.row.context :: encodeAccess a := by
  simp [encode, h]

theorem Instr.wellFormed_of_access {i : Instr} {a : CfgAccess} (h : i.access = some a) :
    i.wellFormed = a.wellFormed := by
  simp [Instr.wellFormed, h]

/-! ## The obligations on the byte form -/

/-- Settles O25: the header bytes name the row of the instruction, and a register row reads its access back from the bytes
after them. -/
theorem decodeEncode : Obligations.DecodeEncode := by
  intro i rest hwf
  have hheader := i.rowIn_header_bytes
  obtain ⟨v, c, hrow, haccess, hi⟩ | ⟨v, c, a, hrow, haccess, hi⟩ := i.decode_row_cases
  case inl =>
    rw [encode_of_noAccess haccess]
    exact decode_stateRow rest (hheader.trans (congrArg _ hrow)) hi
  case inr =>
    have ha : decodeAccess (encodeAccess a ++ rest) = .ok (a, rest) :=
      decodeAccess_encodeAccess (Instr.wellFormed_of_access haccess ▸ hwf) rest
    rw [encode_of_access haccess]
    exact decode_cfgRow (hheader.trans (congrArg _ hrow)) ha hi

/-- Settles O23: each decoder answers below the number of its variant's rows, and nowhere else. -/
theorem reservedCodesRefused : Obligations.ReservedCodesRefused := fun n a =>
  ⟨decodeState_isSome_iff .i2c n, decodeState_isSome_iff .gen n, decodeState_isSome_iff .att n,
    decodeState_isSome_iff .spi n, decodeCfg_isSome_iff .i2c n a, decodeCfg_isSome_iff .gen n a,
    decodeCfg_isSome_iff .att n a, decodeCfg_isSome_iff .spi n a⟩

/-- Settles O24: each word's row, its access where it has one, and the instruction of that row are read off the tables. -/
theorem writtenWordsDecode : Obligations.WrittenWordsDecode :=
  ⟨decode_stateRow [] rfl rfl, decode_stateRow [] rfl rfl, decode_stateRow [] rfl rfl, decode_stateRow [] rfl rfl,
    decode_cfgRow rfl rfl rfl, decode_cfgRow rfl rfl rfl, decode_cfgRow rfl rfl rfl, decode_cfgRow rfl rfl rfl⟩

end Sys2Proof

namespace Sys2Proof.Machine

/-! ## The codes of the states (30_encoding.md R95, R96)

Setting a state register by the code of a state gives that state, so no two states share a code. -/

theorem I2cState.code_injective : Function.Injective I2cState.code :=
  Function.LeftInverse.injective (g := fun n => (State.reset.withStateCode .i2c n).i2c.state) fun a => by
    cases a <;> rfl

theorem GenState.code_injective : Function.Injective GenState.code :=
  Function.LeftInverse.injective (g := fun n => (State.reset.withStateCode .gen n).gen.state) fun a => by
    cases a <;> rfl

theorem AttState.code_injective : Function.Injective AttState.code :=
  Function.LeftInverse.injective (g := fun n => (State.reset.withStateCode .att n).att.state) fun a => by
    cases a <;> rfl

theorem SpiState.code_injective : Function.Injective SpiState.code :=
  Function.LeftInverse.injective (g := fun n => (State.reset.withStateCode .spi n).spi.state) fun a => by
    cases a <;> rfl

theorem I2cState.code_lt (a : I2cState) : a.code < 2 ^ 3 := by cases a <;> decide

theorem GenState.code_lt (a : GenState) : a.code < 2 ^ 1 := by cases a <;> decide

theorem AttState.code_lt (a : AttState) : a.code < 2 ^ 2 := by cases a <;> decide

theorem SpiState.code_lt (a : SpiState) : a.code < 2 ^ 2 := by cases a <;> decide

/-! ## The obligations on the codes and on the host script -/

/-- Settles O22: the codes of a variant are injective and within its width, and every held code is fetched as its own row. -/
theorem stateCodesUnique : Obligations.StateCodesUnique := by
  refine ⟨fun _ _ h => I2cState.code_injective h, fun _ _ h => GenState.code_injective h,
    fun _ _ h => AttState.code_injective h, fun _ _ h => SpiState.code_injective h, I2cState.code_lt, GenState.code_lt,
    AttState.code_lt, SpiState.code_lt, fun s v => ?fetched⟩
  obtain ⟨i, hi⟩ := Option.isSome_iff_exists.1 (decodeState_stateCode_isSome s v)
  exact ⟨i, hi, row_of_decodeState hi⟩

/-- Settles O57: each clause is the equation of `present` for its statement, with `busy` given where the statement looks at
it. -/
theorem hostScriptStatements : Obligations.HostScriptStatements := fun _ _ _ _ _ _ _ _ =>
  ⟨rfl, rfl, rfl, rfl, rfl, rfl, rfl, rfl, rfl, rfl, rfl⟩

end Sys2Proof.Machine
end

section
/-! PROOFS. The timing base (40_timing_base.md): the next value of the counters of every encoder in every tick, and the count at
which a state is entered. -/

namespace Sys2Proof.Machine

/-! ## What the counter's update reads

A `load` or a `shift` in the same tick leaves the counter and the end-of-cycle event as they are. -/

@[simp] theorem Base.load_evEnd (w p : Nat) (b : Base) : (b.load w p).evEnd = b.evEnd := rfl

@[simp] theorem Base.ite_shift_cnt (c : Prop) [Decidable c] (b : Base) :
    (if c then b.shift else b).cnt = b.cnt := by split <;> simp

@[simp] theorem Base.ite_shift_evEnd (c : Prop) [Decidable c] (b : Base) :
    (if c then b.shift else b).evEnd = b.evEnd := by simp [Base.evEnd, Base.event]

@[simp] theorem Base.powerUp_cnt (w endCycle clkHigh data : Nat) : (Base.powerUp w endCycle clkHigh data).cnt = 0 := rfl

/-! ## The counter and the state register of each encoder

For each encoder: the counter after the state part of a tick, a reset included (40_timing_base.md R121, R124); which moves a
state rule makes in the middle of a cycle; that a state is therefore entered with `cnt` = 0 (R128); and the first and the third
of the whole tick, whose other parts touch neither the counter nor the state register. `WAIT` of ATT is the one state that can
be entered with another count. -/

section I2cTiming

variable {m : I2c}

/-- The counter goes to 0 in a reset, in `WAIT` and at `ev_end`, and counts up otherwise. -/
theorem I2c.stateNext_cnt (m : I2c) : m.stateNext.base.cnt =
    if m.port.inp.rst = true ∨ m.state = .wait ∨ m.base.cnt = m.base.endCycle then 0
    else trunc m.par.cycleBits (m.base.cnt + 1) := by
  by_cases hr : m.port.inp.rst = true
  · simp [I2c.stateNext, hr]
  · rw [I2c.stateNext_of_noReset (by simpa using hr)]
    unfold I2c.stateTick
    split <;> simp [*]

/-- Outside `WAIT` a state is left at `ev_end` only. -/
theorem I2c.stateTick_state_of_midCycle (hwait : m.state ≠ .wait) (hcnt : m.base.cnt ≠ m.base.endCycle) :
    m.stateTick.state = m.state := by
  unfold I2c.stateTick
  split <;> simp_all

theorem I2c.stateNext_cnt_of_entered (hne : m.stateNext.state ≠ m.state) : m.stateNext.base.cnt = 0 := by
  rw [I2c.stateNext_cnt, if_pos]
  by_contra! ⟨hrst, hwait, hcnt⟩
  rw [I2c.stateNext_of_noReset (by simpa using hrst)] at hne
  exact hne (I2c.stateTick_state_of_midCycle hwait hcnt)

theorem I2c.tickNext_cnt (m : I2c) : m.tickNext.base.cnt =
    if m.port.inp.rst = true ∨ m.state = .wait ∨ m.base.cnt = m.base.endCycle then 0
    else trunc m.par.cycleBits (m.base.cnt + 1) := by
  rw [I2c.tickNext_eq_withConfigOf, I2c.tickNext_withoutWrite]
  exact I2c.stateNext_cnt { m with port := m.port.readNext m.regValue }

theorem I2c.tickNext_cnt_of_entered (hne : m.tickNext.state ≠ m.state) : m.tickNext.base.cnt = 0 := by
  rw [I2c.tickNext_eq_withConfigOf, I2c.tickNext_withoutWrite] at hne ⊢
  exact I2c.stateNext_cnt_of_entered (m := { m with port := m.port.readNext m.regValue }) hne

end I2cTiming

section GenTiming

variable {m : Gen}

theorem Gen.stateNext_cnt (m : Gen) : m.stateNext.serial.base.cnt =
    if m.port.inp.rst = true ∨ m.state = .wait ∨ m.serial.base.cnt = m.serial.base.endCycle then 0
    else trunc m.par.cycleBits (m.serial.base.cnt + 1) := by
  by_cases hr : m.port.inp.rst = true
  · simp [Gen.stateNext, hr]
  · rw [Gen.stateNext_of_noReset (by simpa using hr)]
    unfold Gen.stateTick
    split <;> simp [*]

theorem Gen.stateTick_state_of_midCycle (hwait : m.state ≠ .wait) (hcnt : m.serial.base.cnt ≠ m.serial.base.endCycle) :
    m.stateTick.state = m.state := by
  unfold Gen.stateTick
  split <;> simp_all

theorem Gen.stateNext_cnt_of_entered (hne : m.stateNext.state ≠ m.state) : m.stateNext.serial.base.cnt = 0 := by
  rw [Gen.stateNext_cnt, if_pos]
  by_contra! ⟨hrst, hwait, hcnt⟩
  rw [Gen.stateNext_of_noReset (by simpa using hrst)] at hne
  exact hne (Gen.stateTick_state_of_midCycle hwait hcnt)

theorem Gen.tickNext_cnt (m : Gen) : m.tickNext.serial.base.cnt =
    if m.port.inp.rst = true ∨ m.state = .wait ∨ m.serial.base.cnt = m.serial.base.endCycle then 0
    else trunc m.par.cycleBits (m.serial.base.cnt + 1) := by
  rw [Gen.tickNext_eq_withConfigOf, Gen.tickNext_withoutWrite]
  exact Gen.stateNext_cnt { m with port := m.port.readNext m.regValue }

theorem Gen.tickNext_cnt_of_entered (hne : m.tickNext.state ≠ m.state) : m.tickNext.serial.base.cnt = 0 := by
  rw [Gen.tickNext_eq_withConfigOf, Gen.tickNext_withoutWrite] at hne ⊢
  exact Gen.stateNext_cnt_of_entered (m := { m with port := m.port.readNext m.regValue }) hne

end GenTiming

section AttTiming

variable {m : Att}

theorem Att.stateNext_cnt (m : Att) : m.stateNext.serial.base.cnt =
    if m.port.inp.rst = true ∨ m.state = .wait ∨ m.serial.base.cnt = m.serial.base.endCycle then 0
    else trunc m.par.cycleBits (m.serial.base.cnt + 1) := by
  by_cases hr : m.port.inp.rst = true
  · simp [Att.stateNext, hr]
  · rw [Att.stateNext_of_noReset (by simpa using hr)]
    unfold Att.stateTick
    split <;> simp [*]

/-- `LATCH` can be left in the middle of a cycle, for `WAIT` (44_attenuator_latch.md R209). -/
theorem Att.stateTick_state_of_midCycle (hwait : m.state ≠ .wait) (hcnt : m.serial.base.cnt ≠ m.serial.base.endCycle) :
    m.stateTick.state = m.state ∨ m.stateTick.state = .wait := by
  unfold Att.stateTick
  split
  case h_1 h => exact absurd h hwait
  case h_2 => simp [hcnt]
  case h_3 =>
    rw [Att.latchTick_state]
    split
    · exact .inr rfl
    · exact .inl rfl

theorem Att.stateNext_cnt_of_entered (hbusy : m.stateNext.state ≠ .wait) (hne : m.stateNext.state ≠ m.state) :
    m.stateNext.serial.base.cnt = 0 := by
  rw [Att.stateNext_cnt, if_pos]
  by_contra! ⟨hrst, hwait, hcnt⟩
  rw [Att.stateNext_of_noReset (by simpa using hrst)] at hbusy hne
  exact (Att.stateTick_state_of_midCycle hwait hcnt).elim hne hbusy

theorem Att.tickNext_cnt (m : Att) : m.tickNext.serial.base.cnt =
    if m.port.inp.rst = true ∨ m.state = .wait ∨ m.serial.base.cnt = m.serial.base.endCycle then 0
    else trunc m.par.cycleBits (m.serial.base.cnt + 1) := by
  rw [Att.tickNext_eq_withConfigOf, Att.tickNext_withoutWrite]
  exact Att.stateNext_cnt { m with port := m.port.readNext m.regValue }

theorem Att.tickNext_cnt_of_entered (hbusy : m.tickNext.state ≠ .wait) (hne : m.tickNext.state ≠ m.state) :
    m.tickNext.serial.base.cnt = 0 := by
  rw [Att.tickNext_eq_withConfigOf, Att.tickNext_withoutWrite] at hbusy hne ⊢
  exact Att.stateNext_cnt_of_entered (m := { m with port := m.port.readNext m.regValue }) hbusy hne

end AttTiming

section SpiTiming

variable {m : Spi}

theorem Spi.stateNext_cnt (m : Spi) : m.stateNext.serial.base.cnt =
    if m.port.inp.rst = true ∨ m.state = .wait ∨ m.serial.base.cnt = m.serial.base.endCycle then 0
    else trunc m.par.cycleBits (m.serial.base.cnt + 1) := by
  by_cases hr : m.port.inp.rst = true
  · simp [Spi.stateNext, hr]
  · rw [Spi.stateNext_of_noReset (by simpa using hr)]
    unfold Spi.stateTick
    split <;> simp [*]

theorem Spi.stateTick_state_of_midCycle (hwait : m.state ≠ .wait) (hcnt : m.serial.base.cnt ≠ m.serial.base.endCycle) :
    m.stateTick.state = m.state := by
  unfold Spi.stateTick
  split <;> simp_all

theorem Spi.stateNext_cnt_of_entered (hne : m.stateNext.state ≠ m.state) : m.stateNext.serial.base.cnt = 0 := by
  rw [Spi.stateNext_cnt, if_pos]
  by_contra! ⟨hrst, hwait, hcnt⟩
  rw [Spi.stateNext_of_noReset (by simpa using hrst)] at hne
  exact hne (Spi.stateTick_state_of_midCycle hwait hcnt)

theorem Spi.tickNext_cnt (m : Spi) : m.tickNext.serial.base.cnt =
    if m.port.inp.rst = true ∨ m.state = .wait ∨ m.serial.base.cnt = m.serial.base.endCycle then 0
    else trunc m.par.cycleBits (m.serial.base.cnt + 1) := by
  rw [Spi.tickNext_eq_withConfigOf, Spi.tickNext_withoutWrite]
  exact Spi.stateNext_cnt { m with port := m.port.readNext m.regValue }

theorem Spi.tickNext_cnt_of_entered (hne : m.tickNext.state ≠ m.state) : m.tickNext.serial.base.cnt = 0 := by
  rw [Spi.tickNext_eq_withConfigOf, Spi.tickNext_withoutWrite] at hne ⊢
  exact Spi.stateNext_cnt_of_entered (m := { m with port := m.port.readNext m.regValue }) hne

end SpiTiming

/-! ## The latch counter (44_attenuator_latch.md R206) -/

theorem Att.stateTick_lcnt (m : Att) :
    m.stateTick.lcnt = if m.state = .latch then trunc m.par.cycleBits (m.lcnt + 1) else 0 := by
  unfold Att.stateTick
  split <;> simp [*]

theorem Att.tickNext_lcnt {m : Att} (hrst : m.port.inp.rst = false) :
    m.tickNext.lcnt = if m.state = .latch then trunc m.par.cycleBits (m.lcnt + 1) else 0 := by
  rw [Att.tickNext_eq_withConfigOf, Att.tickNext_withoutWrite, Att.stateNext_of_noReset (by simpa using hrst)]
  exact Att.stateTick_lcnt { m with port := m.port.readNext m.regValue }

/-! ## The obligations -/

/-- Settles O31: the counters' updates, taken without their reset case. -/
theorem counterNext : Obligations.CounterNext := by
  intro s t hstep
  obtain ⟨-, rfl⟩ := step_eq_next.1 hstep
  refine ⟨fun hr => (I2c.tickNext_cnt _).trans ?_, fun hr => (Gen.tickNext_cnt _).trans ?_,
    fun hr => (Att.tickNext_cnt _).trans ?_, fun hr => (Spi.tickNext_cnt _).trans ?_, Att.tickNext_lcnt⟩
  all_goals simp [hr, trunc]

/-- Settles O32: `ev_end` is the equality, and one of the cases in which the counter's update gives 0. -/
theorem endOfCycleZeroesCounter : Obligations.EndOfCycleZeroesCounter := by
  intro s t hstep
  obtain ⟨-, rfl⟩ := step_eq_next.1 hstep
  refine ⟨⟨Base.evEnd_iff _, fun he => (I2c.tickNext_cnt _).trans ?_⟩,
    ⟨Base.evEnd_iff _, fun he => (Gen.tickNext_cnt _).trans ?_⟩,
    ⟨Base.evEnd_iff _, fun he => (Att.tickNext_cnt _).trans ?_⟩,
    ⟨Base.evEnd_iff _, fun he => (Spi.tickNext_cnt _).trans ?_⟩⟩
  all_goals exact if_pos (.inr (.inr ((Base.evEnd_iff _).1 he)))

/-- Settles O33: a state is entered from `WAIT`, where the counter is held at 0, or at `ev_end`, which zeroes it. -/
theorem firstTickOfStateCntZero : Obligations.FirstTickOfStateCntZero := by
  intro s t hstep
  obtain ⟨-, rfl⟩ := step_eq_next.1 hstep
  exact ⟨fun _ => I2c.tickNext_cnt_of_entered, fun _ => Gen.tickNext_cnt_of_entered, Att.tickNext_cnt_of_entered,
    fun _ => Spi.tickNext_cnt_of_entered⟩

end Sys2Proof.Machine
end

section
/-! PROOFS. The bit shifter (41_bit_shifter.md): what a run of shifts leaves in the shift register, its count and the underflow
flag, and the flag of every encoder after every tick. -/

namespace Sys2Proof.Machine

/-! ## A run of shifts

Of any number of shifts after any state of the shifter, an underflow included (41_bit_shifter.md R141, R142). -/

theorem Base.shift_iterate_rem (b : Base) (k : Nat) : (Base.shift^[k] b).rem = b.rem - k := by
  induction k with
  | zero => rfl
  | succ k ih => rw [Function.iterate_succ_apply', Base.shift_rem, ih, Nat.sub_sub]

theorem Base.shift_iterate_sr (b : Base) (k : Nat) : (Base.shift^[k] b).sr = b.sr >>> k := by
  induction k with
  | zero => rfl
  | succ k ih => rw [Function.iterate_succ_apply', Base.shift_sr, ih, Nat.shiftRight_add]

/-- A run of shifts raises the fault exactly when it is longer than the count it starts with: the first shift too many finds
`rem` = 0. -/
theorem Base.shift_iterate_faultUnderflow (b : Base) (k : Nat) :
    (Base.shift^[k] b).faultUnderflow = (b.faultUnderflow || decide (b.rem < k)) := by
  induction k with
  | zero => simp
  | succ k ih =>
    have hlast : (decide (b.rem < k) || b.rem - k == 0) = decide (b.rem < k + 1) := by
      rw [Bool.eq_iff_iff]
      simp only [Bool.or_eq_true, decide_eq_true_eq, beq_iff_eq]
      omega
    rw [Function.iterate_succ_apply', Base.shift_faultUnderflow, ih, Base.shift_iterate_rem, Bool.or_assoc, hlast]

/-- The bit to send after `k` shifts is bit `k` of what the shift register held (20_memory.md R79). -/
theorem Base.shift_iterate_shiftBit (b : Base) (k : Nat) : (Base.shift^[k] b).shiftBit = b.sr.testBit k := by
  rw [Base.shiftBit, Base.shift_iterate_sr, Nat.testBit_shiftRight, Nat.add_zero]

/-! ## The underflow flag of each encoder

A state rule adds to the flag in `TRANSFER` only, where the data event shifts; a reset keeps it (10_state.md R37), and the other
parts of the tick do not touch it. -/

/-- The shifter of a `TRANSFER` tick: the shift at the data event is the one that can underflow. -/
theorem Base.ite_shift_faultUnderflow (b : Base) (c : Prop) [Decidable c] :
    (if c then b.shift else b).faultUnderflow = (b.faultUnderflow || decide (c ∧ b.rem = 0)) := by
  by_cases hc : c
  · simp [hc, Bool.beq_eq_decide_eq]
  · simp [hc]

section I2cFaultFlag

variable (m : I2c)

theorem I2c.stateTick_faultUnderflow : m.stateTick.base.faultUnderflow = (m.base.faultUnderflow ||
    decide (m.state = .transfer ∧ m.base.cnt = m.base.data ∧ m.base.rem = 0)) := by
  unfold I2c.stateTick
  cases m.state
  case transfer => simp [Base.ite_shift_faultUnderflow]
  all_goals simp

theorem I2c.stateNext_faultUnderflow : m.stateNext.base.faultUnderflow = (m.base.faultUnderflow ||
    decide (m.port.inp.rst = false ∧ m.state = .transfer ∧ m.base.cnt = m.base.data ∧ m.base.rem = 0)) := by
  cases hrst : m.port.inp.rst
  · simp [I2c.stateNext_of_noReset hrst, I2c.stateTick_faultUnderflow]
  · simp [I2c.stateNext, hrst]

theorem I2c.tickNext_faultUnderflow : m.tickNext.base.faultUnderflow = (m.base.faultUnderflow ||
    decide (m.port.inp.rst = false ∧ m.state = .transfer ∧ m.base.cnt = m.base.data ∧ m.base.rem = 0)) := by
  rw [I2c.tickNext_eq_withConfigOf, I2c.tickNext_withoutWrite]
  exact I2c.stateNext_faultUnderflow { m with port := m.port.readNext m.regValue }

end I2cFaultFlag

section GenFaultFlag

variable (m : Gen)

theorem Gen.stateTick_faultUnderflow : m.stateTick.serial.base.faultUnderflow = (m.serial.base.faultUnderflow ||
    decide (m.state = .transfer ∧ m.serial.base.cnt = m.serial.base.data ∧ m.serial.base.rem = 0)) := by
  unfold Gen.stateTick
  cases m.state
  case transfer => simp [Base.ite_shift_faultUnderflow]
  all_goals simp

theorem Gen.stateNext_faultUnderflow : m.stateNext.serial.base.faultUnderflow = (m.serial.base.faultUnderflow ||
    decide (m.port.inp.rst = false ∧ m.state = .transfer ∧ m.serial.base.cnt = m.serial.base.data ∧ m.serial.base.rem = 0)) := by
  cases hrst : m.port.inp.rst
  · simp [Gen.stateNext_of_noReset hrst, Gen.stateTick_faultUnderflow]
  · simp [Gen.stateNext, hrst]

theorem Gen.tickNext_faultUnderflow : m.tickNext.serial.base.faultUnderflow = (m.serial.base.faultUnderflow ||
    decide (m.port.inp.rst = false ∧ m.state = .transfer ∧ m.serial.base.cnt = m.serial.base.data ∧ m.serial.base.rem = 0)) := by
  rw [Gen.tickNext_eq_withConfigOf, Gen.tickNext_withoutWrite]
  exact Gen.stateNext_faultUnderflow { m with port := m.port.readNext m.regValue }

end GenFaultFlag

section AttFaultFlag

variable (m : Att)

theorem Att.stateTick_faultUnderflow : m.stateTick.serial.base.faultUnderflow = (m.serial.base.faultUnderflow ||
    decide (m.state = .transfer ∧ m.serial.base.cnt = m.serial.base.data ∧ m.serial.base.rem = 0)) := by
  unfold Att.stateTick
  cases m.state
  case transfer => simp [Base.ite_shift_faultUnderflow]
  all_goals simp

theorem Att.stateNext_faultUnderflow : m.stateNext.serial.base.faultUnderflow = (m.serial.base.faultUnderflow ||
    decide (m.port.inp.rst = false ∧ m.state = .transfer ∧ m.serial.base.cnt = m.serial.base.data ∧ m.serial.base.rem = 0)) := by
  cases hrst : m.port.inp.rst
  · simp [Att.stateNext_of_noReset hrst, Att.stateTick_faultUnderflow]
  · simp [Att.stateNext, hrst]

theorem Att.tickNext_faultUnderflow : m.tickNext.serial.base.faultUnderflow = (m.serial.base.faultUnderflow ||
    decide (m.port.inp.rst = false ∧ m.state = .transfer ∧ m.serial.base.cnt = m.serial.base.data ∧ m.serial.base.rem = 0)) := by
  rw [Att.tickNext_eq_withConfigOf, Att.tickNext_withoutWrite]
  exact Att.stateNext_faultUnderflow { m with port := m.port.readNext m.regValue }

end AttFaultFlag

section SpiFaultFlag

variable (m : Spi)

theorem Spi.stateTick_faultUnderflow : m.stateTick.serial.base.faultUnderflow = (m.serial.base.faultUnderflow ||
    decide (m.state = .transfer ∧ m.serial.base.cnt = m.serial.base.data ∧ m.serial.base.rem = 0)) := by
  unfold Spi.stateTick
  cases m.state
  case transfer => simp [Base.ite_shift_faultUnderflow]
  all_goals simp

theorem Spi.stateNext_faultUnderflow : m.stateNext.serial.base.faultUnderflow = (m.serial.base.faultUnderflow ||
    decide (m.port.inp.rst = false ∧ m.state = .transfer ∧ m.serial.base.cnt = m.serial.base.data ∧ m.serial.base.rem = 0)) := by
  cases hrst : m.port.inp.rst
  · simp [Spi.stateNext_of_noReset hrst, Spi.stateTick_faultUnderflow]
  · simp [Spi.stateNext, hrst]

theorem Spi.tickNext_faultUnderflow : m.tickNext.serial.base.faultUnderflow = (m.serial.base.faultUnderflow ||
    decide (m.port.inp.rst = false ∧ m.state = .transfer ∧ m.serial.base.cnt = m.serial.base.data ∧ m.serial.base.rem = 0)) := by
  rw [Spi.tickNext_eq_withConfigOf, Spi.tickNext_withoutWrite]
  exact Spi.stateNext_faultUnderflow { m with port := m.port.readNext m.regValue }

end SpiFaultFlag

/-! ## The obligations -/

/-- Settles O34: a step is `State.next`, and the tick of each encoder adds to its flag in `TRANSFER` only. -/
theorem faultFlagNext : Obligations.FaultFlagNext := by
  intro s t hstep
  obtain ⟨-, rfl⟩ := step_eq_next.1 hstep
  exact ⟨I2c.tickNext_faultUnderflow _, Gen.tickNext_faultUnderflow _, Att.tickNext_faultUnderflow _,
    Spi.tickNext_faultUnderflow _⟩

/-- Settles O45: the laws of a run of shifts, from a loaded shifter; `k` ≤ `width` shifts do not exhaust its count. -/
theorem shiftOrder : Obligations.ShiftOrder := by
  intro b width payload k hk
  refine ⟨Base.shift_iterate_rem _ k, ?sr, ?fault, fun hlt => ?bit⟩
  case sr => rw [Base.shift_iterate_sr, Base.load_sr, trunc, Nat.shiftRight_eq_div_pow]
  case fault =>
    have hcount : ¬ (b.load width payload).rem < k := not_lt.2 hk
    rw [Base.shift_iterate_faultUnderflow, decide_eq_false hcount, Bool.or_false, Base.load_faultUnderflow]
  case bit => simp [Base.shift_iterate_shiftBit, trunc, hlt]

end Sys2Proof.Machine
end

section
/-! PROOFS. The I2C encoder (42_i2c_encoder.md): the result of each state row, what a whole tick keeps of a state rule's result,
the waveform of a well-timed transaction, and the course of a valid one. -/

namespace Sys2Proof.Machine

/-! ## The state rows

The rows of `exec` by their state rules, and the operations of a rule in the raw fields of the common registers. -/

theorem exec_i2cWait : ∀ s : State, exec .i2cWait s = .next (s.withI2c s.i2c.waitTick) := by intros; rfl

theorem exec_i2cStart : ∀ s : State, exec .i2cStart s = .next (s.withI2c s.i2c.startTick) := by intros; rfl

theorem exec_i2cTransfer : ∀ s : State, exec .i2cTransfer s = .next (s.withI2c s.i2c.transferTick) := by intros; rfl

theorem exec_i2cAck : ∀ s : State, exec .i2cAck s = .next (s.withI2c s.i2c.ackTick) := by intros; rfl

theorem exec_i2cStop : ∀ s : State, exec .i2cStop s = .next (s.withI2c s.i2c.stopTick) := by intros; rfl

/-- The counter's update outside `WAIT` (40_timing_base.md R121). -/
theorem Base.tickCounter_false (n : Nat) (b : Base) :
    b.tickCounter n false = { b with cnt := if b.cnt = b.endCycle then 0 else (b.cnt + 1) % 2 ^ n } := by
  simp [Base.tickCounter, trunc]

theorem Base.shiftBit_eq (b : Base) : b.shiftBit = decide (b.sr % 2 = 1) := Nat.testBit_zero _

/-- A shift in the raw fields (41_bit_shifter.md R141, R142). -/
theorem Base.shift_eq (b : Base) : b.shift =
    { b with sr := b.sr / 2, rem := b.rem - 1, faultUnderflow := b.faultUnderflow || decide (b.rem = 0) } := by
  unfold Base.shift
  split <;> simp_all [Base.raiseUnderflow, Nat.shiftRight_one]

/-- Settles O3: the rule of `WAIT` in raw fields is its definition. -/
theorem i2cWaitResult : Obligations.I2cWaitResult := fun s => exec_i2cWait s

/-- Settles O4: the clock action, the start event and the counter in raw fields. -/
theorem i2cStartResult : Obligations.I2cStartResult := by
  intro s
  simp [exec_i2cStart, State.withI2c, I2c.startTick, i2cClockEdges_eq, Base.tickCounter_false]

/-- Settles O5: with the data event the tick shifts, without it the shifter keeps its registers. -/
theorem i2cTransferResult : Obligations.I2cTransferResult := by
  intro s
  by_cases hdata : s.i2c.base.cnt = s.i2c.base.data
  · simp [exec_i2cTransfer, State.withI2c, I2c.transferTick, i2cClockEdges_eq, Base.tickCounter_false, Base.shift_eq,
      Base.shiftBit_eq, hdata]
  · simp [exec_i2cTransfer, State.withI2c, I2c.transferTick, i2cClockEdges_eq, Base.tickCounter_false, hdata]

/-- Settles O6: the clock action and the counter in raw fields. -/
theorem i2cAckResult : Obligations.I2cAckResult := by
  intro s
  simp [exec_i2cAck, State.withI2c, I2c.ackTick, i2cClockEdges_eq, Base.tickCounter_false]

/-- Settles O7: the events of the tick as equalities, and the counter in raw fields. -/
theorem i2cStopResult : Obligations.I2cStopResult := by
  intro s
  simp [exec_i2cStop, State.withI2c, I2c.stopTick, Base.tickCounter_false]

/-! ## A tick without reset keeps what the state rule gives

The read goes to the host, the write to the configuration registers, and the end of the tick to the synchronizer and the host:
none of them touches the state register or a line. -/

/-- The state rule does not see what the read put on the host's side. -/
theorem I2c.stateTick_readNext (m : I2c) (value : Nat → Nat) :
    ({ m with port := m.port.readNext value } : I2c).stateTick =
      { m.stateTick with port := m.port.readNext value } := by
  cases m with
  | mk par state => cases state <;> rfl

theorem Gen.stateTick_readNext (m : Gen) (value : Nat → Nat) :
    ({ m with port := m.port.readNext value } : Gen).stateTick =
      { m.stateTick with port := m.port.readNext value } := by
  cases m with
  | mk par state => cases state <;> rfl

theorem Att.stateTick_readNext (m : Att) (value : Nat → Nat) :
    ({ m with port := m.port.readNext value } : Att).stateTick =
      { m.stateTick with port := m.port.readNext value } := by
  cases m with
  | mk par state => cases state <;> rfl

theorem Spi.stateTick_readNext (m : Spi) (value : Nat → Nat) :
    ({ m with port := m.port.readNext value } : Spi).stateTick =
      { m.stateTick with port := m.port.readNext value } := by
  cases m with
  | mk par state => cases state <;> rfl

theorem I2c.tickNext_lines {m : I2c} (hr : m.port.inp.rst = false) : m.tickNext.state = m.stateTick.state ∧
    m.tickNext.scl = m.stateTick.scl ∧ m.tickNext.sdaO = m.stateTick.sdaO := by
  rw [I2c.tickNext_eq_withConfigOf, I2c.tickNext_withoutWrite, I2c.stateNext_of_noReset (by simpa using hr),
    I2c.stateTick_readNext]
  exact ⟨rfl, rfl, rfl⟩

theorem Gen.tickNext_lines {m : Gen} (hr : m.port.inp.rst = false) : m.tickNext.state = m.stateTick.state ∧
    m.tickNext.serial.clk = m.stateTick.serial.clk ∧ m.tickNext.serial.sdo = m.stateTick.serial.sdo := by
  rw [Gen.tickNext_eq_withConfigOf, Gen.tickNext_withoutWrite, Gen.stateNext_of_noReset (by simpa using hr),
    Gen.stateTick_readNext]
  exact ⟨rfl, rfl, rfl⟩

theorem Att.tickNext_lines {m : Att} (hr : m.port.inp.rst = false) : m.tickNext.state = m.stateTick.state ∧
    m.tickNext.serial.clk = m.stateTick.serial.clk ∧ m.tickNext.serial.sdo = m.stateTick.serial.sdo ∧
    m.tickNext.le = m.stateTick.le := by
  rw [Att.tickNext_eq_withConfigOf, Att.tickNext_withoutWrite, Att.stateNext_of_noReset (by simpa using hr),
    Att.stateTick_readNext]
  exact ⟨rfl, rfl, rfl, rfl⟩

theorem Spi.tickNext_lines {m : Spi} (hr : m.port.inp.rst = false) : m.tickNext.state = m.stateTick.state ∧
    m.tickNext.serial.clk = m.stateTick.serial.clk ∧ m.tickNext.serial.sdo = m.stateTick.serial.sdo ∧
    m.tickNext.csn = m.stateTick.csn := by
  rw [Spi.tickNext_eq_withConfigOf, Spi.tickNext_withoutWrite, Spi.stateNext_of_noReset (by simpa using hr),
    Spi.stateTick_readNext]
  exact ⟨rfl, rfl, rfl, rfl⟩

theorem I2c.stateTick_of_wait {m : I2c} (h : m.state = .wait) : m.stateTick = m.waitTick := by simp [I2c.stateTick, h]

theorem Gen.stateTick_of_wait {m : Gen} (h : m.state = .wait) : m.stateTick = m.waitTick := by simp [Gen.stateTick, h]

theorem Att.stateTick_of_wait {m : Att} (h : m.state = .wait) : m.stateTick = m.waitTick := by simp [Att.stateTick, h]

theorem Spi.stateTick_of_wait {m : Spi} (h : m.state = .wait) : m.stateTick = m.waitTick := by simp [Spi.stateTick, h]

/-- Settles O43: the `WAIT` rule of each encoder writes no line, and no other part of its tick does. -/
theorem linesHeldInWait : Obligations.LinesHeldInWait := by
  intro s t hstep
  obtain ⟨-, rfl⟩ := step_eq_next.1 hstep
  refine ⟨fun hs hr => ?i2c, fun hs hr => ?gen, fun hs hr => ?att, fun hs hr => ?spi⟩
  case i2c =>
    obtain ⟨-, hlines⟩ := I2c.tickNext_lines hr
    rw [I2c.stateTick_of_wait hs] at hlines
    exact hlines
  case gen =>
    obtain ⟨-, hlines⟩ := Gen.tickNext_lines hr
    rw [Gen.stateTick_of_wait hs] at hlines
    exact hlines
  case att =>
    obtain ⟨-, hlines⟩ := Att.tickNext_lines hr
    rw [Att.stateTick_of_wait hs] at hlines
    exact hlines
  case spi =>
    obtain ⟨-, hlines⟩ := Spi.tickNext_lines hr
    rw [Spi.stateTick_of_wait hs] at hlines
    exact hlines

/-! ## The encoder does not see the bit-bang registers (42_i2c_encoder.md R166, 45_spi_extension.md R227)

Each part of a tick takes an encoder with other bit-bang registers and other read data (`withBitBang`) to what it takes the
encoder itself to, again with some bit-bang registers and the same other read data. -/

/-- `m` with the bit-bang registers of `o` and with the read data `rdata`. -/
def I2c.withBitBang (m : I2c) (o : Overlay) (rdata : Option Nat) : I2c :=
  { m with overlay := m.overlay.withBitBangOf o, port := { m.port with rdata := rdata } }

def Spi.withBitBang (m : Spi) (o : Overlay) (rdata : Option Nat) : Spi :=
  { m with overlay := m.overlay.withBitBangOf o, port := { m.port with rdata := rdata } }

section BitBang

variable (o : Overlay) (rdata : Option Nat)

theorem I2c.stateTick_withBitBang (m : I2c) : (m.withBitBang o rdata).stateTick = m.stateTick.withBitBang o rdata := by
  cases m with
  | mk par state => cases state <;> rfl

theorem Spi.stateTick_withBitBang (m : Spi) : (m.withBitBang o rdata).stateTick = m.stateTick.withBitBang o rdata := by
  cases m with
  | mk par state => cases state <;> rfl

/-- A reset puts the bit-bang registers back, whatever they held. -/
theorem I2c.stateNext_withBitBang (m : I2c) : ∃ o', (m.withBitBang o rdata).stateNext = m.stateNext.withBitBang o' rdata := by
  have hrst : (m.withBitBang o rdata).port.inp.rst = m.port.inp.rst := rfl
  unfold I2c.stateNext
  rw [hrst, I2c.stateTick_withBitBang]
  cases m.port.inp.rst
  · exact ⟨o, rfl⟩
  · exact ⟨m.applyReset.overlay, rfl⟩

theorem Spi.stateNext_withBitBang (m : Spi) : ∃ o', (m.withBitBang o rdata).stateNext = m.stateNext.withBitBang o' rdata := by
  have hrst : (m.withBitBang o rdata).port.inp.rst = m.port.inp.rst := rfl
  unfold Spi.stateNext
  rw [hrst, Spi.stateTick_withBitBang]
  cases m.port.inp.rst
  · exact ⟨o, rfl⟩
  · exact ⟨m.applyReset.overlay, rfl⟩

/-- A store into a bit-bang register shows in that register only. -/
theorem I2c.store_withBitBang (m : I2c) (n v : Nat) :
    ∃ o', (m.withBitBang o rdata).store n v = (m.store n v).withBitBang o' rdata := by
  refine ⟨((m.withBitBang o rdata).store n v).overlay, ?_⟩
  unfold I2c.store
  split <;> rfl

theorem Spi.store_withBitBang (m : Spi) (n v : Nat) :
    ∃ o', (m.withBitBang o rdata).store n v = (m.store n v).withBitBang o' rdata := by
  refine ⟨((m.withBitBang o rdata).store n v).overlay, ?_⟩
  unfold Spi.store
  split <;> rfl

theorem I2c.writeNext_withBitBang (m : I2c) : ∃ o', (m.withBitBang o rdata).writeNext = m.writeNext.withBitBang o' rdata := by
  have hinp : (m.withBitBang o rdata).port.inp = m.port.inp := rfl
  unfold I2c.writeNext
  rw [hinp]
  split
  · exact ⟨o, rfl⟩
  · split
    · exact ⟨o, rfl⟩
    · exact I2c.store_withBitBang o rdata m _ _

theorem Spi.writeNext_withBitBang (m : Spi) : ∃ o', (m.withBitBang o rdata).writeNext = m.writeNext.withBitBang o' rdata := by
  have hinp : (m.withBitBang o rdata).port.inp = m.port.inp := rfl
  unfold Spi.writeNext
  rw [hinp]
  split
  · exact ⟨o, rfl⟩
  · split
    · exact ⟨o, rfl⟩
    · exact Spi.store_withBitBang o rdata m _ _

theorem I2c.endNext_withBitBang (m : I2c) : (m.withBitBang o rdata).endNext = m.endNext.withBitBang o rdata := rfl

theorem Spi.endNext_withBitBang (m : Spi) : (m.withBitBang o rdata).endNext = m.endNext.withBitBang o rdata := rfl

/-- The tick after its read. -/
theorem I2c.afterRead_withBitBang (m : I2c) : ∃ o', (m.withBitBang o rdata).stateNext.writeNext.endNext =
    m.stateNext.writeNext.endNext.withBitBang o' rdata := by
  obtain ⟨o₁, hstate⟩ := m.stateNext_withBitBang o rdata
  obtain ⟨o₂, hwrite⟩ := m.stateNext.writeNext_withBitBang o₁ rdata
  exact ⟨o₂, by rw [hstate, hwrite, I2c.endNext_withBitBang]⟩

theorem Spi.afterRead_withBitBang (m : Spi) : ∃ o', (m.withBitBang o rdata).stateNext.writeNext.endNext =
    m.stateNext.writeNext.endNext.withBitBang o' rdata := by
  obtain ⟨o₁, hstate⟩ := m.stateNext_withBitBang o rdata
  obtain ⟨o₂, hwrite⟩ := m.stateNext.writeNext_withBitBang o₁ rdata
  exact ⟨o₂, by rw [hstate, hwrite, Spi.endNext_withBitBang]⟩

/-- A whole tick with other bit-bang registers: those apart, only what its read returns can be another. -/
theorem I2c.tickNext_withBitBang (m : I2c) : ∃ o', (m.withBitBang o rdata).tickNext =
    m.tickNext.withBitBang o' (m.port.readNext (m.withBitBang o rdata).regValue).rdata :=
  I2c.afterRead_withBitBang o _ { m with port := m.port.readNext m.regValue }

theorem Spi.tickNext_withBitBang (m : Spi) : ∃ o', (m.withBitBang o rdata).tickNext =
    m.tickNext.withBitBang o' (m.port.readNext (m.withBitBang o rdata).regValue).rdata :=
  Spi.afterRead_withBitBang o _ { m with port := m.port.readNext m.regValue }

/-- A register other than the two reads the same. -/
theorem I2c.regValue_withBitBang (m : I2c) {n : Nat} (hen : n ≠ 6) (hout : n ≠ 7) :
    (m.withBitBang o rdata).regValue n = m.regValue n := by
  unfold I2c.regValue
  split
  case h_7 => exact absurd rfl hen
  case h_8 => exact absurd rfl hout
  all_goals rfl

theorem Spi.regValue_withBitBang (m : Spi) {n : Nat} (hen : n ≠ 3) (hout : n ≠ 4) :
    (m.withBitBang o rdata).regValue n = m.regValue n := by
  unfold Spi.regValue
  split
  case h_4 => exact absurd rfl hen
  case h_5 => exact absurd rfl hout
  all_goals rfl

theorem I2c.rdata_withBitBang {m : I2c} (hrd : ¬ (m.port.inp.cfgRd = some 6#4 ∨ m.port.inp.cfgRd = some 7#4)) :
    (m.port.readNext (m.withBitBang o rdata).regValue).rdata = m.tickNext.port.rdata := by
  have hread : m.tickNext.port.rdata = (m.port.readNext m.regValue).rdata := by simp [I2c.tickNext]
  rw [hread, Port.readNext, Port.readNext]
  refine Option.map_congr fun r hr => m.regValue_withBitBang o rdata ?en ?out
  case en => exact fun h => hrd (.inl (by rw [hr, BitVec.eq_of_toNat_eq (y := 6#4) h]))
  case out => exact fun h => hrd (.inr (by rw [hr, BitVec.eq_of_toNat_eq (y := 7#4) h]))

theorem Spi.rdata_withBitBang {m : Spi} (hrd : ¬ (m.port.inp.cfgRd = some 3#4 ∨ m.port.inp.cfgRd = some 4#4)) :
    (m.port.readNext (m.withBitBang o rdata).regValue).rdata = m.tickNext.port.rdata := by
  have hread : m.tickNext.port.rdata = (m.port.readNext m.regValue).rdata := by simp [Spi.tickNext]
  rw [hread, Port.readNext, Port.readNext]
  refine Option.map_congr fun r hr => m.regValue_withBitBang o rdata ?en ?out
  case en => exact fun h => hrd (.inl (by rw [hr, BitVec.eq_of_toNat_eq (y := 3#4) h]))
  case out => exact fun h => hrd (.inr (by rw [hr, BitVec.eq_of_toNat_eq (y := 4#4) h]))

/-- The tick with other bit-bang registers, from the tick without them. -/
theorem I2c.tickNext_eq_of_withBitBang {m u : I2c} (hu : (m.withBitBang o rdata).tickNext = u) :
    u = { m.tickNext with
      overlay := { m.tickNext.overlay with bbEn := u.overlay.bbEn, bbOut := u.overlay.bbOut },
      port := { m.tickNext.port with rdata := if m.port.inp.cfgRd = some 6#4 ∨ m.port.inp.cfgRd = some 7#4
        then u.port.rdata else m.tickNext.port.rdata } } := by
  obtain ⟨o', ho'⟩ := m.tickNext_withBitBang o rdata
  subst hu
  rw [ho']
  by_cases hrd : m.port.inp.cfgRd = some 6#4 ∨ m.port.inp.cfgRd = some 7#4
  · rw [if_pos hrd]
    rfl
  · rw [if_neg hrd, I2c.rdata_withBitBang o rdata hrd]
    rfl

theorem Spi.tickNext_eq_of_withBitBang {m u : Spi} (hu : (m.withBitBang o rdata).tickNext = u) :
    u = { m.tickNext with
      overlay := { m.tickNext.overlay with bbEn := u.overlay.bbEn, bbOut := u.overlay.bbOut },
      port := { m.tickNext.port with rdata := if m.port.inp.cfgRd = some 3#4 ∨ m.port.inp.cfgRd = some 4#4
        then u.port.rdata else m.tickNext.port.rdata } } := by
  obtain ⟨o', ho'⟩ := m.tickNext_withBitBang o rdata
  subst hu
  rw [ho']
  by_cases hrd : m.port.inp.cfgRd = some 3#4 ∨ m.port.inp.cfgRd = some 4#4
  · rw [if_pos hrd]
    rfl
  · rw [if_neg hrd, Spi.rdata_withBitBang o rdata hrd]
    rfl

end BitBang

/-- Settles O42: I2C and SPI tick as with other bit-bang registers, and GEN and ATT are the same. -/
theorem bitBangInvisible : Obligations.BitBangInvisible := by
  intro s t u e1 e2 o1 o2 hstep hstep'
  obtain ⟨-, rfl⟩ := step_eq_next.1 hstep
  obtain ⟨-, rfl⟩ := step_eq_next.1 hstep'
  have hi2c := I2c.tickNext_eq_of_withBitBang { s.i2c.overlay with bbEn := e1, bbOut := o1 } s.i2c.port.rdata
    (m := s.i2c) rfl
  have hspi := Spi.tickNext_eq_of_withBitBang { s.spi.overlay with bbEn := e2, bbOut := o2 } s.spi.port.rdata
    (m := s.spi) rfl
  exact congrArg₂ (fun i p => { s.next with i2c := i, spi := p }) hi2c hspi

/-! ## A tick that holds the timing registers

Without reset and with no write to a timing register (70_reset_and_hazards.md R305, V2 and V3) a tick is the state rule, the
overlay and the host's side apart. -/

/-- The registers past `bb_en` hold no timing. -/
theorem I2c.store_of_held {m : I2c} {n : Nat} (hn : firstUnheldIndex .i2c ≤ n) (v : Nat) :
    m.store n v = { m with overlay := (m.store n v).overlay } := by
  unfold I2c.store
  split
  case h_8 => rfl
  case h_9 => rfl
  all_goals exact absurd hn (by decide)

theorem I2c.writeNext_of_held {m : I2c} (h : m.port.inp.ConfigHeld .i2c) :
    m.writeNext = { m with overlay := m.writeNext.overlay } := by
  obtain hkept | ⟨w, hw, hstored⟩ := m.writeNext_cases
  · rw [hkept]
  · rw [hstored]
    exact I2c.store_of_held (h w hw) _

theorem I2c.tickNext_of_held {m : I2c} (hr : m.port.inp.rst = false) (h : m.port.inp.ConfigHeld .i2c) :
    ∃ o p, m.tickNext = { m.stateTick with overlay := o, port := p } := by
  rw [I2c.tickNext, I2c.stateNext_of_noReset (by simpa using hr), I2c.writeNext_of_held (by simpa using h),
    I2c.stateTick_readNext]
  exact ⟨_, _, rfl⟩

/-! ## The waveform (42_i2c_encoder.md R168 to R170)

The phase invariant at the start of a state, and then kept by each state rule: in the middle of a cycle, and at its end. -/

section Waveform

variable {m : I2c}

theorem I2c.Phase.of_wait (hs : m.state = .wait) (hscl : m.scl = true) (hsda : m.sdaO = true) : m.Phase :=
  ⟨absurd hs, fun _ => ⟨hscl, hsda⟩, by simp [hs], by simp [hs], by simp [hs], by simp [hs]⟩

theorem I2c.Phase.of_start (hs : m.state = .start) (hcnt : m.base.cnt ≤ m.base.endCycle) (hscl : m.scl = true)
    (hsda : m.sdaO = decide (m.base.cnt ≤ m.start)) : m.Phase :=
  ⟨fun _ => hcnt, by simp [hs], fun _ => ⟨hscl, hsda⟩, by simp [hs], by simp [hs], by simp [hs]⟩

theorem I2c.Phase.of_transfer_or_ack (hs : m.state = .transfer ∨ m.state = .ack) (hcnt : m.base.cnt ≤ m.base.endCycle)
    (hscl : m.scl = decide (m.base.clkHigh < m.base.cnt)) : m.Phase := by
  obtain hs | hs := hs
  all_goals exact ⟨fun _ => hcnt, by simp [hs], by simp [hs], fun _ => hscl, by simp [hs], by simp [hs]⟩

theorem I2c.Phase.of_stop (hs : m.state = .stop) (hcnt : m.base.cnt ≤ m.base.endCycle)
    (hscl : m.scl = decide (m.base.clkHigh < m.base.cnt))
    (hlow : m.stopLow < m.base.cnt → m.base.cnt ≤ m.stopHigh → m.sdaO = false)
    (hhigh : m.stopHigh < m.base.cnt → m.sdaO = true) : m.Phase :=
  ⟨fun _ => hcnt, by simp [hs], by simp [hs], fun _ => hscl, fun _ => hlow, fun _ => hhigh⟩

/-- A clocked state is entered with the clock low. -/
theorem I2c.Phase.of_entered (hs : m.state = .transfer ∨ m.state = .ack ∨ m.state = .stop) (hcnt : m.base.cnt = 0)
    (hscl : m.scl = false) : m.Phase := by
  have hclk : m.scl = decide (m.base.clkHigh < m.base.cnt) := by simp [hscl, hcnt]
  obtain hs | hs | hs := hs
  · exact .of_transfer_or_ack (.inl hs) (by omega) hclk
  · exact .of_transfer_or_ack (.inr hs) (by omega) hclk
  · exact .of_stop hs (by omega) hclk (by omega) (by omega)

/-- In the middle of a cycle the counter does not wrap around. -/
theorem Base.InRange.tickCounter_cnt {d : Config.Dims} {b : Base} (h : b.InRange d) (hmid : b.cnt < b.endCycle) :
    (b.tickCounter d.cycleBits false).cnt = b.cnt + 1 := by
  have hend : b.endCycle < 2 ^ d.cycleBits := h.endCycle
  rw [Base.tickCounter_false, if_neg (by omega), Nat.mod_eq_of_lt (by omega)]

theorem i2cClockEdges_of_end {b : Base} (h : b.cnt = b.endCycle) (scl : Bool) : i2cClockEdges b scl = false := by
  rw [i2cClockEdges_eq, if_pos h]

/-- In the middle of a cycle the clock rises at `clk_high` and stays high. -/
theorem i2cClockEdges_of_mid {b : Base} (h : b.cnt < b.endCycle) :
    i2cClockEdges b (decide (b.clkHigh < b.cnt)) = decide (b.clkHigh < b.cnt + 1) := by
  rw [i2cClockEdges_eq, if_neg h.ne]
  by_cases hrise : b.cnt = b.clkHigh
  · simp [hrise]
  · rw [if_neg hrise, decide_eq_decide]
    omega

/-- The data line falls at the start event and stays low. -/
theorem I2c.startTick_sdaO_of_phase (hsda : m.sdaO = decide (m.base.cnt ≤ m.start)) :
    m.startTick.sdaO = decide (m.base.cnt + 1 ≤ m.start) := by
  rw [I2c.startTick_sdaO, hsda]
  by_cases hstart : m.base.cnt = m.start
  · simp [hstart]
  · rw [if_neg (by simpa using hstart), decide_eq_decide]
    omega

theorem I2c.Phase.startTick (h : m.Phase) (hr : m.InRange) (hs : m.state = .start) : m.startTick.Phase := by
  obtain ⟨hscl, hsda⟩ := h.start hs
  obtain hmid | hend := (h.cnt (by simp [hs])).lt_or_eq
  · have hcnt : m.startTick.base.cnt = m.base.cnt + 1 := hr.base.tickCounter_cnt hmid
    refine .of_start (by simp [hs, hmid.ne]) (hcnt.trans_le hmid) (by simp [i2cClockEdges_eq, hscl, hmid.ne]) ?_
    rw [hcnt]
    exact I2c.startTick_sdaO_of_phase hsda
  · exact .of_entered (.inl (by simp [hend])) (by simp [hend]) (i2cClockEdges_of_end hend _)

theorem I2c.Phase.transferTick (h : m.Phase) (hr : m.InRange) (hs : m.state = .transfer) : m.transferTick.Phase := by
  obtain hmid | hend := (h.cnt (by simp [hs])).lt_or_eq
  · have hcnt : m.transferTick.base.cnt = m.base.cnt + 1 := by
      rw [I2c.transferTick_base, Base.InRange.tickCounter_cnt (hr.base.shiftIf _) (by simpa using hmid),
        Base.ite_shift_cnt]
    refine .of_transfer_or_ack (.inl (by simp [hs, hmid.ne])) (hcnt.trans_le (by simpa using hmid)) ?_
    rw [hcnt, I2c.transferTick_scl, h.clocked (.inl hs), i2cClockEdges_of_mid hmid]
    simp
  · refine .of_entered ?_ (by simp [hend]) (i2cClockEdges_of_end hend _)
    by_cases hrem : m.base.rem % 8 = 0
    · exact .inr (.inl (by simp [hend, hrem]))
    · exact .inl (by simp [hs, hrem])

theorem I2c.Phase.ackTick (h : m.Phase) (hr : m.InRange) (hs : m.state = .ack) : m.ackTick.Phase := by
  obtain hmid | hend := (h.cnt (by simp [hs])).lt_or_eq
  · have hcnt : m.ackTick.base.cnt = m.base.cnt + 1 := hr.base.tickCounter_cnt hmid
    refine .of_transfer_or_ack (.inr (by simp [hs, hmid.ne])) (hcnt.trans_le hmid) ?_
    rw [hcnt, I2c.ackTick_scl, h.clocked (.inr (.inl hs)), i2cClockEdges_of_mid hmid]
    rfl
  · refine .of_entered ?_ (by simp [hend]) (i2cClockEdges_of_end hend _)
    by_cases hrem : m.base.rem = 0
    · exact .inr (.inr (by simp [hend, hrem]))
    · exact .inl (by simp [hend, hrem])

/-- In `STOP` the clock is raised as in every clocked state, and not lowered. -/
theorem I2c.stopTick_scl_of_phase (hscl : m.scl = decide (m.base.clkHigh < m.base.cnt)) :
    m.stopTick.scl = decide (m.base.clkHigh < m.base.cnt + 1) := by
  rw [I2c.stopTick_scl, hscl]
  by_cases hrise : m.base.cnt = m.base.clkHigh
  · simp [hrise]
  · rw [if_neg (by simpa using hrise), decide_eq_decide]
    omega

/-- From `stop_low` to `stop_high` the data line is low. -/
theorem I2c.stopTick_sdaO_of_before (hlow : m.stopLow < m.base.cnt → m.sdaO = false) (hle : m.stopLow ≤ m.base.cnt)
    (hlt : m.base.cnt < m.stopHigh) : m.stopTick.sdaO = false := by
  obtain hev | hpast := hle.eq_or_lt
  · simp [← hev, (hev.trans_lt hlt).ne]
  · simp [hlt.ne, hlow hpast]

/-- From `stop_high`, which is after `stop_low`, the data line is high. -/
theorem I2c.stopTick_sdaO_of_after (hhigh : m.stopHigh < m.base.cnt → m.sdaO = true) (hle : m.stopHigh ≤ m.base.cnt)
    (hlow : m.stopLow < m.stopHigh) : m.stopTick.sdaO = true := by
  obtain hev | hpast := hle.eq_or_lt
  · simp [hev]
  · simp [(hlow.trans hpast).ne', hhigh hpast]

theorem I2c.Phase.stopTick (h : m.Phase) (hr : m.InRange) (hs : m.state = .stop) (ht : m.WellTimed) :
    m.stopTick.Phase := by
  have hscl := h.clocked (.inr (.inr hs))
  have hlowHigh : m.stopLow < m.stopHigh := ht.stopLow.trans ht.stopHigh
  obtain hmid | hend := (h.cnt (by simp [hs])).lt_or_eq
  · have hcnt : m.stopTick.base.cnt = m.base.cnt + 1 := hr.base.tickCounter_cnt hmid
    refine .of_stop (by simp [hs, hmid.ne]) (hcnt.trans_le hmid) ?scl ?low ?high <;> rw [hcnt]
    case scl => exact I2c.stopTick_scl_of_phase hscl
    case low =>
      intro hlow hhigh
      exact I2c.stopTick_sdaO_of_before (fun hpast => h.stopLow hs hpast (Nat.le_of_lt hhigh)) (Nat.le_of_lt_succ hlow)
        hhigh
    case high =>
      intro hhigh
      exact I2c.stopTick_sdaO_of_after (h.stopHigh hs) (Nat.le_of_lt_succ hhigh) hlowHigh
  · refine .of_wait (by simp [hend]) ?scl ?sda
    case scl => simp [hscl, hend, ht.valid.clkHigh]
    case sda => exact I2c.stopTick_sdaO_of_after (h.stopHigh hs) (hend ▸ ht.valid.stopHigh.le) hlowHigh

/-- The phase is not about the overlay and the host's side. -/
theorem I2c.Phase.withOverlay_withPort (h : m.Phase) (o : Overlay) (p : Port) :
    ({ m with overlay := o, port := p } : I2c).Phase := { h with }

theorem I2c.Phase.stateTick_of_busy (h : m.Phase) (hr : m.InRange) (hbusy : m.state ≠ .wait) (ht : m.WellTimed) :
    m.stateTick.Phase := by
  unfold I2c.stateTick
  split
  case h_1 hs => exact absurd hs hbusy
  case h_2 hs => exact h.startTick hr hs
  case h_3 hs => exact h.transferTick hr hs
  case h_4 hs => exact h.ackTick hr hs
  case h_5 hs => exact h.stopTick hr hs ht

/-- `WAIT` holds its lines, and `START` begins with both high, whatever timing is written in the accepting tick. -/
theorem I2c.Phase.tickNext_of_wait (h : m.Phase) (hs : m.state = .wait) (hrst : m.port.inp.rst = false) :
    m.tickNext.Phase := by
  obtain ⟨hstate, hscl, hsda⟩ := I2c.tickNext_lines hrst
  obtain ⟨hclk, hdat⟩ := h.wait hs
  have hcnt : m.tickNext.base.cnt = 0 := by simp [I2c.tickNext_cnt, hs]
  rw [I2c.stateTick_of_wait hs] at hstate hscl hsda
  rw [I2c.waitTick_scl, hclk] at hscl
  rw [I2c.waitTick_sdaO, hdat] at hsda
  cases hready : m.port.inp.dataReady
  case false => exact .of_wait (by simp [hstate, hready, hs]) hscl hsda
  case true => exact .of_start (by simp [hstate, hready]) (by simp [hcnt]) hscl (by simp [hsda, hcnt])

theorem I2c.Phase.tickNext_of_reset (hrst : m.port.inp.rst = true) : m.tickNext.Phase := by
  rw [I2c.tickNext_eq_withConfigOf, I2c.tickNext_withoutWrite, I2c.stateNext, Port.readNext_inp, if_pos hrst]
  exact .of_wait rfl rfl rfl

theorem I2c.Phase.tickNext (h : m.Phase) (hr : m.InRange)
    (ht : m.state ≠ .wait → m.WellTimed ∧ m.port.inp.ConfigHeld .i2c) : m.tickNext.Phase := by
  cases hrst : m.port.inp.rst
  case true => exact .tickNext_of_reset hrst
  case false =>
    by_cases hs : m.state = .wait
    · exact h.tickNext_of_wait hs hrst
    · obtain ⟨hwell, hheld⟩ := ht hs
      obtain ⟨o, p, htick⟩ := I2c.tickNext_of_held hrst hheld
      rw [htick]
      exact (h.stateTick_of_busy hr hs hwell).withOverlay_withPort o p

/-- The data line moves at the events of its state only; under a high clock those are the start event and `stop_high`,
because `data` and `stop_low` come before `clk_high`. -/
theorem I2c.Phase.sdaO_change (h : m.Phase) (ht : m.state ≠ .wait → m.WellTimed) (hscl : m.scl = true)
    (hne : m.stateTick.sdaO ≠ m.sdaO) :
    (m.state = .start ∧ m.base.cnt = m.start ∧ m.sdaO = true ∧ m.stateTick.sdaO = false) ∨
    (m.state = .stop ∧ m.base.cnt = m.stopHigh ∧ m.sdaO = false ∧ m.stateTick.sdaO = true) := by
  unfold I2c.stateTick at hne ⊢
  cases hs : m.state <;> simp only [hs] at hne ⊢
  case wait => exact absurd (I2c.waitTick_sdaO m) hne
  case start =>
    obtain hev | hev := eq_or_ne m.base.cnt m.start
    · exact .inl ⟨trivial, hev, by simp [(h.start hs).2, hev], by simp [hev]⟩
    · exact absurd (by simp [hev]) hne
  case transfer =>
    have hhigh : m.base.clkHigh < m.base.cnt := by simpa [hscl] using h.clocked (.inl hs)
    have hdata : m.base.cnt ≠ m.base.data := ((ht (by simp [hs])).dataLow.trans hhigh).ne'
    exact absurd (by simp [hdata]) hne
  case ack => exact absurd (I2c.ackTick_sdaO m) hne
  case stop =>
    have hhigh : m.base.clkHigh < m.base.cnt := by simpa [hscl] using h.clocked (.inr (.inr hs))
    have hlow : m.base.cnt ≠ m.stopLow := ((ht (by simp [hs])).stopLow.trans hhigh).ne'
    obtain hev | hev := eq_or_ne m.base.cnt m.stopHigh
    · exact .inr ⟨trivial, hev, by simpa [hev] using hne, by simp [hev]⟩
    · exact absurd (by simp [hev, hlow]) hne

end Waveform

/-- Settles O47: the phase invariant is kept by each state rule, by the reset and by the accepting tick; and under a high clock
each state rule moves the data line at the named event only. -/
theorem i2cWaveform : Obligations.I2cWaveform := by
  intro s t hr hphase ht hstep
  obtain ⟨-, rfl⟩ := step_eq_next.1 hstep
  refine ⟨hphase.tickNext hr ht, fun hrst hscl _ => ?_⟩
  have hsda : s.next.i2c.sdaO = s.i2c.stateTick.sdaO := (I2c.tickNext_lines hrst).2.2
  rw [hsda]
  exact hphase.sdaO_change (fun hs => (ht hs).1) hscl

/-! ## The course of a valid transaction (42_i2c_encoder.md R171, R172)

Cycle 0 is the START cycle; then each byte takes eight TRANSFER cycles and one ACK cycle, and one STOP cycle ends the
transaction. Tick `i` of cycle `c` holds `i` in the counter, and the shifter as the tick after the request loaded it, after one
shift for each data event so far (`I2c.AtTick`). -/

/-- The state in cycle `c` of a transaction of `width` bits. -/
def i2cCycleState (width c : Nat) : I2cState :=
  if c = 0 then .start
  else if c = width + width / 8 + 1 then .stop
  else if (c - 1) % 9 = 8 then .ack
  else .transfer

/-- The data events before cycle `c`: one for each cycle since START that is no ACK cycle. -/
def i2cBitsBefore (c : Nat) : Nat := (c - 1) - (c - 1) / 9

/-- The data events before tick `i` of cycle `c`, for the shifter `b` that the request loaded. -/
def i2cBitsAt (b : Base) (c i : Nat) : Nat :=
  i2cBitsBefore c + if i2cCycleState b.rem c = .transfer ∧ b.data < i then 1 else 0

/-- What a request leaves in the common registers under a valid configuration (70_reset_and_hazards.md R305): whole bytes to
send, and the data event before the end of a cycle that the counter can reach. -/
structure Base.WholeBytes (cycleBits : Nat) (b : Base) : Prop where
  endCycle : b.endCycle < 2 ^ cycleBits
  data : b.data < b.endCycle
  bytes : b.rem % 8 = 0
  pos : 0 < b.rem

/-- The encoder in tick `i` of cycle `c` of the transaction of the loaded shifter `b`. -/
structure I2c.AtTick (b : Base) (cycleBits c i : Nat) (m : I2c) : Prop where
  cycleBits : m.par.cycleBits = cycleBits
  state : m.state = i2cCycleState b.rem c
  base : m.base = { Base.shift^[i2cBitsAt b c i] b with cnt := i }

theorem i2cCycleState_ne_wait (width c : Nat) : i2cCycleState width c ≠ .wait := by
  unfold i2cCycleState
  split_ifs <;> decide

theorem i2cCycleState_zero (width : Nat) : i2cCycleState width 0 = .start := rfl

theorem i2cCycleState_last (width : Nat) : i2cCycleState width (width + width / 8 + 1) = .stop := by
  simp [i2cCycleState]

/-- Between START and STOP every ninth cycle is an ACK cycle. -/
theorem i2cCycleState_of_byte {width c : Nat} (h0 : c ≠ 0) (hlt : c ≤ width + width / 8) :
    i2cCycleState width c = if (c - 1) % 9 = 8 then .ack else .transfer := by
  unfold i2cCycleState
  rw [if_neg h0, if_neg (by omega)]

theorem i2cBitsBefore_succ {width c : Nat} (hlt : c ≤ width + width / 8) :
    i2cBitsBefore (c + 1) = i2cBitsBefore c + if i2cCycleState width c = .transfer then 1 else 0 := by
  obtain h0 | h0 := eq_or_ne c 0
  · simp [h0, i2cBitsBefore, i2cCycleState_zero]
  · rw [i2cCycleState_of_byte h0 hlt]
    unfold i2cBitsBefore
    by_cases hack : (c - 1) % 9 = 8 <;> simp [hack] <;> omega

/-- All bits are out when STOP begins. -/
theorem i2cBitsBefore_last {width : Nat} (hbytes : width % 8 = 0) : i2cBitsBefore (width + width / 8 + 1) = width := by
  unfold i2cBitsBefore
  omega

/-- Bit `j` goes out in cycle 1 + j + j/8, with an ACK cycle after each eight bits. -/
theorem i2cBitsBefore_of_bit (j : Nat) : i2cBitsBefore (1 + j + j / 8) = j := by
  unfold i2cBitsBefore
  omega

theorem i2cCycleState_of_bit {width j : Nat} (hbytes : width % 8 = 0) (hj : j < width) :
    i2cCycleState width (1 + j + j / 8) = .transfer := by
  rw [i2cCycleState_of_byte (by omega) (by omega), if_neg (by omega)]

section Transaction

variable {b : Base} {n c i : Nat} {m : I2c}

theorem Base.shift_withCnt (b : Base) (i : Nat) : ({ b with cnt := i } : Base).shift = { b.shift with cnt := i } := by
  unfold Base.shift
  split <;> rfl

theorem Base.shift_iterate_endCycle (b : Base) (k : Nat) : (Base.shift^[k] b).endCycle = b.endCycle := by
  induction k with
  | zero => rfl
  | succ k ih => rw [Function.iterate_succ_apply', Base.shift_endCycle, ih]

theorem Base.shift_iterate_data (b : Base) (k : Nat) : (Base.shift^[k] b).data = b.data := by
  induction k with
  | zero => rfl
  | succ k ih => rw [Function.iterate_succ_apply', Base.shift_data, ih]

/-- The common registers after a busy tick: a shift at the data event of `TRANSFER`, and the counter. -/
theorem I2c.stateTick_base_of_busy (h : m.state ≠ .wait) : m.stateTick.base =
    (if m.state = .transfer ∧ m.base.cnt = m.base.data then m.base.shift else m.base).tickCounter m.par.cycleBits
      false := by
  unfold I2c.stateTick
  cases hs : m.state
  case wait => exact absurd hs h
  all_goals simp

@[simp] theorem I2c.stateTick_par (m : I2c) : m.stateTick.par = m.par := by
  unfold I2c.stateTick
  split <;> rfl

/-- One more tick of a cycle has seen its data event if this tick is it. -/
theorem i2cBitsAt_succ (b : Base) (c i : Nat) :
    i2cBitsAt b c (i + 1) = i2cBitsAt b c i + if i2cCycleState b.rem c = .transfer ∧ i = b.data then 1 else 0 := by
  unfold i2cBitsAt
  by_cases ht : i2cCycleState b.rem c = .transfer
  · simp only [ht, true_and]
    split_ifs <;> omega
  · simp [ht]

/-- A whole cycle has seen its data event, and the next has not. -/
theorem i2cBitsAt_end (hdata : b.data < b.endCycle) (hlt : c ≤ b.rem + b.rem / 8) :
    i2cBitsAt b c b.endCycle = i2cBitsBefore (c + 1) := by
  rw [i2cBitsBefore_succ hlt, i2cBitsAt]
  simp [hdata]

@[simp] theorem i2cBitsAt_zero (b : Base) (c : Nat) : i2cBitsAt b c 0 = i2cBitsBefore c := by simp [i2cBitsAt]

theorem I2c.AtTick.busy (h : m.AtTick b n c i) : m.state ≠ .wait := by
  rw [h.state]
  exact i2cCycleState_ne_wait _ _

theorem I2c.AtTick.cnt (h : m.AtTick b n c i) : m.base.cnt = i := by rw [h.base]

theorem I2c.AtTick.endCycle (h : m.AtTick b n c i) : m.base.endCycle = b.endCycle := by
  rw [h.base]
  exact b.shift_iterate_endCycle _

theorem I2c.AtTick.data (h : m.AtTick b n c i) : m.base.data = b.data := by
  rw [h.base]
  exact b.shift_iterate_data _

theorem I2c.AtTick.rem (h : m.AtTick b n c i) : m.base.rem = b.rem - i2cBitsAt b c i := by
  rw [h.base]
  exact b.shift_iterate_rem _

/-- The state rule shifts when the count of data events says so. -/
theorem I2c.AtTick.stateTick_base (h : m.AtTick b n c i) : m.stateTick.base =
    { Base.shift^[i2cBitsAt b c (i + 1)] b with cnt := if i = b.endCycle then 0 else (i + 1) % 2 ^ n } := by
  have hshift : (if m.state = .transfer ∧ m.base.cnt = m.base.data then m.base.shift else m.base) =
      { Base.shift^[i2cBitsAt b c (i + 1)] b with cnt := i } := by
    rw [h.cnt, h.data, h.state, h.base, Base.shift_withCnt, i2cBitsAt_succ]
    split
    · rw [Function.iterate_succ_apply']
    · rfl
  rw [I2c.stateTick_base_of_busy h.busy, hshift, Base.tickCounter_false, h.cycleBits]
  simp only [Base.shift_iterate_endCycle]

/-- The next tick of the same cycle. -/
theorem I2c.AtTick.next_of_mid (h : m.AtTick b n c i) (hb : b.WholeBytes n) (hi : i < b.endCycle) :
    m.stateTick.AtTick b n c (i + 1) where
  cycleBits := by rw [I2c.stateTick_par, h.cycleBits]
  state := by rw [I2c.stateTick_state_of_midCycle h.busy (by rw [h.cnt, h.endCycle]; exact hi.ne), h.state]
  base := by rw [h.stateTick_base, if_neg hi.ne, Nat.mod_eq_of_lt (Nat.lt_of_le_of_lt hi hb.endCycle)]

/-- The state that the rule of `state` moves to at `ev_end`, with `rem` bits left. -/
def i2cStateAfterCycle (rem : Nat) : I2cState → I2cState
  | .start => .transfer
  | .transfer => if rem % 8 = 0 then .ack else .transfer
  | .ack => if rem = 0 then .stop else .transfer
  | .stop | .wait => .wait

theorem I2c.stateTick_state_of_end (hbusy : m.state ≠ .wait) (hend : m.base.cnt = m.base.endCycle) :
    m.stateTick.state = i2cStateAfterCycle m.base.rem m.state := by
  unfold I2c.stateTick
  cases hs : m.state
  case wait => exact absurd hs hbusy
  all_goals simp [hs, hend, i2cStateAfterCycle]

/-- The states of the cycles follow each other as the bits left over at the end of each say. -/
theorem i2cStateAfterCycle_cycleState {width : Nat} (hbytes : width % 8 = 0) (hpos : 0 < width)
    (hlt : c ≤ width + width / 8) :
    i2cStateAfterCycle (width - i2cBitsBefore (c + 1)) (i2cCycleState width c) = i2cCycleState width (c + 1) := by
  obtain h0 | h0 := eq_or_ne c 0
  · rw [h0, i2cCycleState_zero, i2cCycleState_of_byte (by omega) (by omega)]
    rfl
  obtain hlast | hbyte := hlt.eq_or_lt
  · have hack : (c - 1) % 9 = 8 := by omega
    rw [hlast, i2cBitsBefore_last hbytes, i2cCycleState_last, ← hlast, i2cCycleState_of_byte h0 hlt, if_pos hack]
    simp [i2cStateAfterCycle]
  rw [i2cCycleState_of_byte h0 hlt, i2cCycleState_of_byte (c := c + 1) (by omega) hbyte, Nat.add_sub_cancel]
  by_cases hack : (c - 1) % 9 = 8
  · have hmore : width - i2cBitsBefore (c + 1) ≠ 0 := by
      unfold i2cBitsBefore
      omega
    rw [if_pos hack, if_neg (by omega)]
    simp only [i2cStateAfterCycle, if_neg hmore]
  · have hexit : (width - i2cBitsBefore (c + 1)) % 8 = 0 ↔ c % 9 = 8 := by
      unfold i2cBitsBefore
      omega
    rw [if_neg hack]
    simp only [i2cStateAfterCycle, hexit]

/-- The first tick of the next cycle. -/
theorem I2c.AtTick.next_of_end (h : m.AtTick b n c b.endCycle) (hb : b.WholeBytes n) (hlt : c ≤ b.rem + b.rem / 8) :
    m.stateTick.AtTick b n (c + 1) 0 where
  cycleBits := by rw [I2c.stateTick_par, h.cycleBits]
  state := by
    rw [I2c.stateTick_state_of_end h.busy (by rw [h.cnt, h.endCycle]), h.rem, h.state, i2cBitsAt_end hb.data hlt,
      i2cStateAfterCycle_cycleState hb.bytes hb.pos hlt]
  base := by
    rw [h.stateTick_base, if_pos rfl, i2cBitsAt_succ, if_neg fun hdata => hb.data.ne' hdata.2, i2cBitsAt_end hb.data hlt,
      i2cBitsAt_zero]
    rfl

/-- In the last tick of the STOP cycle the transaction ends, with every bit out and none too many. -/
theorem I2c.AtTick.finish (h : m.AtTick b n (b.rem + b.rem / 8 + 1) b.endCycle) (hb : b.WholeBytes n) :
    m.stateTick.state = .wait ∧ m.stateTick.base.faultUnderflow = b.faultUnderflow := by
  have hstop := i2cCycleState_last b.rem
  have hbits : i2cBitsAt b (b.rem + b.rem / 8 + 1) (b.endCycle + 1) = b.rem := by
    rw [i2cBitsAt, i2cBitsBefore_last hb.bytes, hstop]
    rfl
  constructor
  · rw [I2c.stateTick_state_of_end h.busy (by rw [h.cnt, h.endCycle]), h.state, hstop]
    rfl
  · rw [h.stateTick_base, hbits, Base.shift_iterate_faultUnderflow]
    simp

/-- At the data event of the cycle of bit `j` that bit goes on the data line. -/
theorem I2c.AtTick.sdaO_of_bit {j : Nat} (h : m.AtTick b n (1 + j + j / 8) b.data) (hb : b.WholeBytes n) (hj : j < b.rem) :
    m.stateTick.sdaO = b.sr.testBit j := by
  have hbits : i2cBitsAt b (1 + j + j / 8) b.data = j := by simp [i2cBitsAt, i2cBitsBefore_of_bit]
  have hstate : m.state = .transfer := h.state.trans (i2cCycleState_of_bit hb.bytes hj)
  have hdata : m.base.cnt = m.base.data := h.cnt.trans h.data.symm
  have hbit : m.base.shiftBit = (Base.shift^[j] b).shiftBit := by
    rw [h.base, hbits]
    rfl
  have hrule : m.stateTick = m.transferTick := by simp [I2c.stateTick, hstate]
  rw [hrule, I2c.transferTick_sdaO, if_pos ((Base.evData_iff _).2 hdata), hbit, Base.shift_iterate_shiftBit]

/-- The position in the transaction is not about the overlay and the host's side. -/
theorem I2c.AtTick.withOverlay_withPort (h : m.AtTick b n c i) (o : Overlay) (p : Port) :
    ({ m with overlay := o, port := p } : I2c).AtTick b n c i := { h with }

/-- The ticks of the busy part of a transaction, as state rules: no reset, and no write to a timing register. -/
def I2c.HeldRun (g : Nat → I2c) (B : Nat) : Prop :=
  ∀ k, 1 ≤ k → k ≤ B → ∃ o p, g (k + 1) = { (g k).stateTick with overlay := o, port := p }

variable {g : Nat → I2c} {B : Nat}

theorem I2c.HeldRun.atTick_mid (hrun : HeldRun g B) (hb : b.WholeBytes n) {k : Nat} (hk : 1 ≤ k)
    (hfirst : (g k).AtTick b n c 0) (hi : i ≤ b.endCycle) (hB : k + i ≤ B + 1) : (g (k + i)).AtTick b n c i := by
  induction i with
  | zero => exact hfirst
  | succ i ih =>
    obtain ⟨o, p, htick⟩ := hrun (k + i) (by omega) (by omega)
    have hnext := (ih (by omega) (by omega)).next_of_mid hb hi
    rw [← Nat.add_assoc, htick]
    exact hnext.withOverlay_withPort o p

/-- The first tick of every cycle. -/
theorem I2c.HeldRun.atTick_first (hrun : HeldRun g B) (hb : b.WholeBytes n) (hfirst : (g 1).AtTick b n 0 0)
    (hB : B = (b.endCycle + 1) * (b.rem + b.rem / 8 + 2)) (hc : c ≤ b.rem + b.rem / 8 + 1) :
    (g (1 + (b.endCycle + 1) * c)).AtTick b n c 0 := by
  induction c with
  | zero => simpa using hfirst
  | succ c ih =>
    have hle : (b.endCycle + 1) * (c + 1) ≤ B := hB ▸ Nat.mul_le_mul_left _ (by omega)
    have hsucc : (b.endCycle + 1) * (c + 1) = (b.endCycle + 1) * c + (b.endCycle + 1) := Nat.mul_succ _ _
    have hlast := hrun.atTick_mid hb (by omega) (ih (by omega)) le_rfl (by omega)
    obtain ⟨o, p, htick⟩ := hrun (1 + (b.endCycle + 1) * c + b.endCycle) (by omega) (by omega)
    have hk : 1 + (b.endCycle + 1) * (c + 1) = 1 + (b.endCycle + 1) * c + b.endCycle + 1 := by omega
    rw [hk, htick]
    exact (hlast.next_of_end hb (by omega)).withOverlay_withPort o p

/-- Every tick of the transaction, by its cycle and its place in the cycle. -/
theorem I2c.HeldRun.atTick (hrun : HeldRun g B) (hb : b.WholeBytes n) (hfirst : (g 1).AtTick b n 0 0)
    (hB : B = (b.endCycle + 1) * (b.rem + b.rem / 8 + 2)) (hc : c ≤ b.rem + b.rem / 8 + 1) (hi : i ≤ b.endCycle) :
    (g (1 + (b.endCycle + 1) * c + i)).AtTick b n c i := by
  have hle : (b.endCycle + 1) * (c + 1) ≤ B := hB ▸ Nat.mul_le_mul_left _ (by omega)
  have hsucc : (b.endCycle + 1) * (c + 1) = (b.endCycle + 1) * c + (b.endCycle + 1) := Nat.mul_succ _ _
  exact hrun.atTick_mid hb (by omega) (hrun.atTick_first hb hfirst hB hc) hi (by omega)

/-- The same for the ticks counted from the request on. -/
theorem I2c.HeldRun.atTick_div_mod (hrun : HeldRun g B) (hb : b.WholeBytes n) (hfirst : (g 1).AtTick b n 0 0)
    (hB : B = (b.endCycle + 1) * (b.rem + b.rem / 8 + 2)) {k : Nat} (hk : 1 ≤ k) (hkB : k ≤ B) :
    (g k).AtTick b n ((k - 1) / (b.endCycle + 1)) ((k - 1) % (b.endCycle + 1)) := by
  have hsplit : 1 + (b.endCycle + 1) * ((k - 1) / (b.endCycle + 1)) + (k - 1) % (b.endCycle + 1) = k := by
    rw [Nat.add_assoc, Nat.div_add_mod]
    omega
  have hc : (k - 1) / (b.endCycle + 1) < b.rem + b.rem / 8 + 2 := Nat.div_lt_of_lt_mul (by omega)
  have hi : (k - 1) % (b.endCycle + 1) < b.endCycle + 1 := Nat.mod_lt _ (Nat.succ_pos _)
  have hat := hrun.atTick hb hfirst hB (Nat.le_of_lt_succ hc) (Nat.le_of_lt_succ hi)
  rwa [hsplit] at hat

/-- The tick after the data event of the cycle of bit `j`. -/
theorem I2c.HeldRun.sdaO_of_bit (hrun : HeldRun g B) (hb : b.WholeBytes n) (hfirst : (g 1).AtTick b n 0 0)
    (hB : B = (b.endCycle + 1) * (b.rem + b.rem / 8 + 2)) {j : Nat} (hj : j < b.rem) :
    (g (2 + (1 + j + j / 8) * (b.endCycle + 1) + b.data)).sdaO = b.sr.testBit j := by
  have hat := hrun.atTick hb hfirst hB (c := 1 + j + j / 8) (by omega) hb.data.le
  have hle : (b.endCycle + 1) * (1 + j + j / 8 + 1) ≤ B := hB ▸ Nat.mul_le_mul_left _ (by omega)
  have hsucc : (b.endCycle + 1) * (1 + j + j / 8 + 1) = (b.endCycle + 1) * (1 + j + j / 8) + (b.endCycle + 1) :=
    Nat.mul_succ _ _
  have hdata := hb.data
  obtain ⟨o, p, htick⟩ := hrun _ (by omega) (by omega : 1 + (b.endCycle + 1) * (1 + j + j / 8) + b.data ≤ B)
  have hk : 2 + (1 + j + j / 8) * (b.endCycle + 1) + b.data = 1 + (b.endCycle + 1) * (1 + j + j / 8) + b.data + 1 := by
    rw [Nat.mul_comm]
    omega
  rw [hk, htick]
  exact hat.sdaO_of_bit hb hj

/-- The tick after the last. -/
theorem I2c.HeldRun.finish (hrun : HeldRun g B) (hb : b.WholeBytes n) (hfirst : (g 1).AtTick b n 0 0)
    (hB : B = (b.endCycle + 1) * (b.rem + b.rem / 8 + 2)) :
    (g (B + 1)).state = .wait ∧ (g (B + 1)).base.faultUnderflow = b.faultUnderflow := by
  have hat := hrun.atTick hb hfirst hB le_rfl le_rfl
  have hlast : 1 + (b.endCycle + 1) * (b.rem + b.rem / 8 + 1) + b.endCycle = B := by
    have hsucc : (b.endCycle + 1) * (b.rem + b.rem / 8 + 2) =
        (b.endCycle + 1) * (b.rem + b.rem / 8 + 1) + (b.endCycle + 1) := Nat.mul_succ _ _
    omega
  rw [hlast] at hat
  obtain ⟨o, p, htick⟩ := hrun B (by omega) le_rfl
  rw [htick]
  exact hat.finish hb

end Transaction

/-- The first tick after the request is the first of cycle 0. -/
theorem I2c.AtTick.of_start {m : I2c} (hs : m.state = .start) (hcnt : m.base.cnt = 0) :
    m.AtTick m.base m.par.cycleBits 0 0 :=
  have hbase : m.base = { m.base with cnt := 0 } := by rw [← hcnt]
  ⟨rfl, hs, hbase⟩

/-- The tick that accepts a request loads the shifter and leaves for `START` (42_i2c_encoder.md R155). -/
theorem I2c.tickNext_of_accept {m : I2c} (hs : m.state = .wait) (hready : m.port.inp.dataReady = true)
    (hrst : m.port.inp.rst = false) :
    m.tickNext.state = .start ∧ m.tickNext.base.cnt = 0 ∧ m.tickNext.base.rem = m.par.width ∧
    m.tickNext.base.sr = trunc m.par.width m.port.inp.payload ∧
    m.tickNext.base.faultUnderflow = m.base.faultUnderflow := by
  have hshifter : m.tickNext.base.rem = m.stateTick.base.rem ∧ m.tickNext.base.sr = m.stateTick.base.sr := by
    rw [I2c.tickNext_eq_withConfigOf, I2c.tickNext_withoutWrite, I2c.stateNext_of_noReset (by simpa using hrst),
      I2c.stateTick_readNext]
    exact ⟨rfl, rfl⟩
  rw [I2c.stateTick_of_wait hs] at hshifter
  refine ⟨?_, by simp [I2c.tickNext_cnt, hs], hshifter.1, hshifter.2, by simp [I2c.tickNext_faultUnderflow, hs]⟩
  rw [(I2c.tickNext_lines hrst).1, I2c.stateTick_of_wait hs, I2c.waitTick_state, if_pos hready]

/-- Settles O52: the tick after the request is the first of cycle 0, and from there every tick has its place in its cycle. -/
theorem i2cTransaction : Obligations.I2cTransaction := by
  intro f E W B hr hs hready hW hE hbytes hvalid hB hruns hrst hheld
  have htick (k : Nat) (hk : k ≤ B) : (f (k + 1)).i2c = (f k).i2c.tickNext := by
    rw [(step_eq_next.1 (hruns k (by omega))).2]
    rfl
  have hrun : I2c.HeldRun (fun k => (f k).i2c) B := fun k h1 hk => by
    obtain ⟨o, p, h⟩ := I2c.tickNext_of_held (hrst k hk) (hheld k h1 hk)
    exact ⟨o, p, (htick k hk).trans h⟩
  have hr1 : (f 1).i2c.InRange := htick 0 (Nat.zero_le _) ▸ hr.tickNext
  obtain ⟨hstart, hcnt, hrem, hsr, hfault⟩ := I2c.tickNext_of_accept hs hready (hrst 0 (Nat.zero_le _))
  rw [← htick 0 (Nat.zero_le _)] at hstart hcnt hrem hsr hfault
  rw [← hW] at hrem hsr
  have hpos : 0 < W := hW ▸ hr.par.1.2
  have hb : (f 1).i2c.base.WholeBytes (f 1).i2c.par.cycleBits :=
    ⟨hr1.base.endCycle, hvalid.data, hrem.symm ▸ hbytes, hrem.symm ▸ hpos⟩
  have hfirst := I2c.AtTick.of_start hstart hcnt
  have hB' : B = ((f 1).i2c.base.endCycle + 1) * ((f 1).i2c.base.rem + (f 1).i2c.base.rem / 8 + 2) := by
    rw [hB, hE, hrem]
  have hat (k : Nat) (h1 : 1 ≤ k) (hk : k ≤ B) := hrun.atTick_div_mod hb hfirst hB' h1 hk
  obtain ⟨hwait, hflag⟩ := hrun.finish hb hfirst hB'
  refine ⟨fun k h1 hk => ?states, fun j hj => ?bits, fun k h1 hk => ?busy, ?idle, hflag.trans hfault⟩
  case states =>
    have hstate := (hat k h1 hk).state
    rw [hrem, ← hE] at hstate
    exact hstate
  case bits =>
    have hbit := hrun.sdaO_of_bit hb hfirst hB' (hrem.symm ▸ hj)
    rw [hsr, ← hE, trunc, Nat.testBit_mod_two_pow, decide_eq_true hj, Bool.true_and] at hbit
    exact hbit
  case busy => exact bne_iff_ne.2 (hat k h1 hk).busy
  case idle => simp [I2c.busy, hwait]

end Sys2Proof.Machine
end

section
/-! PROOFS. The generic serial encoder (43_generic_encoder.md): the results of the rows of its base, which GEN, ATT and SPI
share; the hang of a transaction whose data event never comes; and for GEN the bit cells of a well-timed transaction and the
course of a valid one. What holds of the base is proved once, of `Serial`. -/

namespace Sys2Proof.Machine

/-! ## The rows of the base

The rows of `exec` by their state rules, and the two rules of the base in the raw fields. -/

theorem exec_genWait : ∀ s : State, exec .genWait s = .next (s.withGen s.gen.waitTick) := by intros; rfl

theorem exec_genTransfer : ∀ s : State, exec .genTransfer s = .next (s.withGen s.gen.transferTick) := by intros; rfl

theorem exec_attWait : ∀ s : State, exec .attWait s = .next (s.withAtt s.att.waitTick) := by intros; rfl

theorem exec_attTransfer : ∀ s : State, exec .attTransfer s = .next (s.withAtt s.att.transferTick) := by intros; rfl

theorem exec_spiWait : ∀ s : State, exec .spiWait s = .next (s.withSpi s.spi.waitTick) := by intros; rfl

theorem exec_spiTransfer : ∀ s : State, exec .spiTransfer s = .next (s.withSpi s.spi.transferTick) := by intros; rfl

/-- `WAIT` of the base (43_generic_encoder.md R190). -/
theorem Serial.waitTick_eq (d : Config.Dims) (payload : Nat) (x : Serial) : x.waitTick d payload =
    { x with base := { x.base with cnt := 0, sr := payload % 2 ^ d.width, rem := d.width } } := rfl

/-- `TRANSFER` of the base (43_generic_encoder.md R191). -/
theorem Serial.transferTick_eq (d : Config.Dims) (x : Serial) : x.transferTick d =
    { clk := if x.base.cnt = x.base.endCycle then false else if x.base.cnt = x.base.clkHigh then true else x.clk,
      sdo := if x.base.cnt = x.base.data then decide (x.base.sr % 2 = 1) else x.sdo,
      base := { x.base with
        cnt := if x.base.cnt = x.base.endCycle then 0 else (x.base.cnt + 1) % 2 ^ d.cycleBits,
        sr := if x.base.cnt = x.base.data then x.base.sr / 2 else x.base.sr,
        rem := if x.base.cnt = x.base.data then x.base.rem - 1 else x.base.rem,
        faultUnderflow := x.base.faultUnderflow || decide (x.base.cnt = x.base.data ∧ x.base.rem = 0) } } := by
  by_cases hdata : x.base.cnt = x.base.data
  · simp [Serial.transferTick, genClockEdges_eq, Base.tickCounter_false, Base.shift_eq, Base.shiftBit_eq, hdata]
  · simp [Serial.transferTick, genClockEdges_eq, Base.tickCounter_false, hdata]

/-- Settles O8: the three `WAIT` rows have the base's `WAIT` in common, and each its own start target. -/
theorem serialWaitResults : Obligations.SerialWaitResults := by
  refine fun s => ⟨?gen, ?att, ?spi⟩
  case gen => rw [exec_genWait, State.withGen, Gen.waitTick, Serial.waitTick_eq]
  case att =>
    rw [exec_attWait, State.withAtt, Att.waitTick, Serial.waitTick_eq]
    rfl
  case spi => rw [exec_spiWait, State.withSpi, Spi.waitTick, Serial.waitTick_eq]

/-- Settles O9: the base's `TRANSFER`, with the exit to `WAIT`. -/
theorem genTransferResult : Obligations.GenTransferResult := by
  intro s
  simp [exec_genTransfer, State.withGen, Gen.transferTick, Serial.transferTick_eq]

/-- Settles O10: the base's `TRANSFER`, with the exit to `LATCH` and the latch counter held at 0. -/
theorem attTransferResult : Obligations.AttTransferResult := by
  intro s
  simp [exec_attTransfer, State.withAtt, Att.transferTick, Serial.transferTick_eq, nextLcnt]

/-- Settles O13: the base's `TRANSFER`, with the exit to `CSN_HI` and the chip-select action. -/
theorem spiTransferResult : Obligations.SpiTransferResult := by
  intro s
  simp [exec_spiTransfer, State.withSpi, Spi.transferTick, Serial.transferTick_eq]

/-- Settles O20: the start target is taken on `data_ready`, the end target on the base's exit test. -/
theorem transitionTargets : Obligations.TransitionTargets := by
  intro s
  have hends {x : Serial} (hcnt : x.base.cnt = x.base.endCycle) (hrem : x.base.rem = 0) : x.transferEnds = true :=
    x.transferEnds_iff.2 ⟨hcnt, hrem⟩
  exact ⟨fun hready => ⟨_, exec_genWait s, if_pos hready⟩, fun hready => ⟨_, exec_attWait s, if_pos hready⟩,
    fun hready => ⟨_, exec_spiWait s, if_pos hready⟩,
    fun hcnt hrem => ⟨_, exec_genTransfer s, if_pos (hends hcnt hrem)⟩,
    fun hcnt hrem => ⟨_, exec_attTransfer s, if_pos (hends hcnt hrem)⟩,
    fun hcnt hrem => ⟨_, exec_spiTransfer s, if_pos (hends hcnt hrem)⟩⟩

/-- Settles O21: the rows of the three variants call the same operations of the base, and leave their state on the same test,
`data_ready` in `WAIT` and the base's exit test in `TRANSFER`. -/
theorem genericBaseShared : Obligations.GenericBaseShared := by
  intro s hgen hatt hspi hserialGA hserialAS hdimsGA hdimsAS hinpGA hinpAS
  refine ⟨⟨_, _, _, exec_genWait s, exec_attWait s, exec_spiWait s, ?_⟩,
    ⟨_, _, _, exec_genTransfer _, exec_attTransfer _, exec_spiTransfer _, ?_⟩⟩
  · simp [hgen, hatt, hspi, hserialGA, hserialAS, hdimsGA, hdimsAS, hinpGA, hinpAS]
  · simp [hserialGA, hserialAS, hdimsGA, hdimsAS]

/-! ## A tick that holds the timing registers

Without reset and with no write to a timing register (70_reset_and_hazards.md R305, V2 and V3) a tick is the state rule, the
host's side and, in SPI, the overlay apart. -/

/-- Every register of GEN is a timing register. -/
theorem Gen.store_of_held {m : Gen} {n : Nat} (hn : firstUnheldIndex .gen ≤ n) (v : Nat) : m.store n v = m := by
  unfold Gen.store
  split
  case h_4 => rfl
  all_goals exact absurd hn (by decide)

theorem Gen.writeNext_of_held {m : Gen} (h : m.port.inp.ConfigHeld .gen) : m.writeNext = m := by
  obtain hkept | ⟨w, hw, hstored⟩ := m.writeNext_cases
  · exact hkept
  · rw [hstored, Gen.store_of_held (h w hw)]

theorem Gen.tickNext_of_held {m : Gen} (hr : m.port.inp.rst = false) (h : m.port.inp.ConfigHeld .gen) :
    ∃ p, m.tickNext = { m.stateTick with port := p } := by
  rw [Gen.tickNext, Gen.stateNext_of_noReset (by simpa using hr), Gen.writeNext_of_held (by simpa using h),
    Gen.stateTick_readNext]
  exact ⟨_, rfl⟩

/-- Every register of ATT is a timing register. -/
theorem Att.store_of_held {m : Att} {n : Nat} (hn : firstUnheldIndex .att ≤ n) (v : Nat) : m.store n v = m := by
  unfold Att.store
  split
  case h_6 => rfl
  all_goals exact absurd hn (by decide)

theorem Att.writeNext_of_held {m : Att} (h : m.port.inp.ConfigHeld .att) : m.writeNext = m := by
  obtain hkept | ⟨w, hw, hstored⟩ := m.writeNext_cases
  · exact hkept
  · rw [hstored, Att.store_of_held (h w hw)]

theorem Att.tickNext_of_held {m : Att} (hr : m.port.inp.rst = false) (h : m.port.inp.ConfigHeld .att) :
    ∃ p, m.tickNext = { m.stateTick with port := p } := by
  rw [Att.tickNext, Att.stateNext_of_noReset (by simpa using hr), Att.writeNext_of_held (by simpa using h),
    Att.stateTick_readNext]
  exact ⟨_, rfl⟩

/-- The registers of SPI past `bb_en` hold no timing. -/
theorem Spi.store_of_held {m : Spi} {n : Nat} (hn : firstUnheldIndex .spi ≤ n) (v : Nat) :
    m.store n v = { m with overlay := (m.store n v).overlay } := by
  unfold Spi.store
  split
  case h_5 => rfl
  case h_6 => rfl
  all_goals exact absurd hn (by decide)

theorem Spi.writeNext_of_held {m : Spi} (h : m.port.inp.ConfigHeld .spi) :
    m.writeNext = { m with overlay := m.writeNext.overlay } := by
  obtain hkept | ⟨w, hw, hstored⟩ := m.writeNext_cases
  · rw [hkept]
  · rw [hstored]
    exact Spi.store_of_held (h w hw) _

theorem Spi.tickNext_of_held {m : Spi} (hr : m.port.inp.rst = false) (h : m.port.inp.ConfigHeld .spi) :
    ∃ o p, m.tickNext = { m.stateTick with overlay := o, port := p } := by
  rw [Spi.tickNext, Spi.stateNext_of_noReset (by simpa using hr), Spi.writeNext_of_held (by simpa using h),
    Spi.stateTick_readNext]
  exact ⟨_, _, rfl⟩

theorem I2c.stateTick_of_transfer {m : I2c} (h : m.state = .transfer) : m.stateTick = m.transferTick := by
  simp [I2c.stateTick, h]

theorem I2c.stateTick_of_ack {m : I2c} (h : m.state = .ack) : m.stateTick = m.ackTick := by simp [I2c.stateTick, h]

theorem Gen.stateTick_of_transfer {m : Gen} (h : m.state = .transfer) : m.stateTick = m.transferTick := by
  simp [Gen.stateTick, h]

theorem Att.stateTick_of_transfer {m : Att} (h : m.state = .transfer) : m.stateTick = m.transferTick := by
  simp [Att.stateTick, h]

theorem Spi.stateTick_of_transfer {m : Spi} (h : m.state = .transfer) : m.stateTick = m.transferTick := by
  simp [Spi.stateTick, h]

/-! ## The hang (43_generic_encoder.md R191, 60_exceptions.md R286)

With `data` above `end_cycle` the counter never reaches the data event, so no bit is shifted out, `rem` stays where it is and
the exit test of `TRANSFER` never holds. -/

/-- The common registers of a transaction that hangs, with bits still to send. -/
structure Base.Hangs (b : Base) : Prop where
  dataLate : b.endCycle < b.data
  cnt : b.cnt ≤ b.endCycle
  bitsLeft : b.rem ≠ 0

section Hang

variable {d : Config.Dims} {b b' : Base}

theorem Base.Hangs.cnt_ne_data (h : b.Hangs) : b.cnt ≠ b.data := (h.cnt.trans_lt h.dataLate).ne

/-- No data event: the shifter of a `TRANSFER` tick keeps its registers. -/
theorem Base.Hangs.shiftIf (h : b.Hangs) : (if b.evData then b.shift else b) = b :=
  if_neg (by simpa using h.cnt_ne_data)

/-- The counter stays below `data`, and nothing else moves. -/
theorem Base.Hangs.of_tickCounter (h : b.Hangs) (hr : b.InRange d) (hb : b' = b.tickCounter d.cycleBits false) :
    b'.endCycle < b'.data ∧ b'.cnt ≤ b'.endCycle ∧ b'.rem = b.rem ∧ b'.sr = b.sr := by
  subst hb
  refine ⟨h.dataLate, ?_, rfl, rfl⟩
  obtain hmid | hend := h.cnt.lt_or_eq
  · rw [hr.tickCounter_cnt hmid]
    exact hmid
  · simp [hend]

theorem Serial.transferTick_base_of_hangs {x : Serial} (h : x.base.Hangs) :
    (x.transferTick d).base = x.base.tickCounter d.cycleBits false := by
  rw [Serial.transferTick_base, h.shiftIf]

theorem Serial.transferEnds_of_hangs {x : Serial} (h : x.base.Hangs) : ¬ x.transferEnds = true :=
  fun hends => h.bitsLeft (x.transferEnds_iff.1 hends).2

/-- I2C takes its ACK cycles, or stays in `TRANSFER`, and never gets to `STOP`. -/
theorem I2c.stateTick_of_hangs {m : I2c} (hs : m.state = .transfer ∨ m.state = .ack) (h : m.base.Hangs) :
    (m.stateTick.state = .transfer ∨ m.stateTick.state = .ack) ∧
    m.stateTick.base = m.base.tickCounter m.par.cycleBits false := by
  obtain hs | hs := hs
  · rw [I2c.stateTick_of_transfer hs, I2c.transferTick_base, h.shiftIf, I2c.transferTick_state, hs]
    exact ⟨(ite_eq_or_eq _ _ _).symm, rfl⟩
  · rw [I2c.stateTick_of_ack hs, I2c.ackTick_base, I2c.ackTick_state, if_neg h.bitsLeft, hs]
    exact ⟨ite_eq_or_eq _ _ _, rfl⟩

theorem I2c.tickNext_of_hangs {m : I2c} (hs : m.state = .transfer ∨ m.state = .ack) (h : m.base.Hangs)
    (hrst : m.port.inp.rst = false) (hheld : m.port.inp.ConfigHeld .i2c) :
    (m.tickNext.state = .transfer ∨ m.tickNext.state = .ack) ∧
    m.tickNext.base = m.base.tickCounter m.par.cycleBits false := by
  obtain ⟨o, p, htick⟩ := I2c.tickNext_of_held hrst hheld
  rw [htick]
  exact I2c.stateTick_of_hangs hs h

theorem Gen.tickNext_of_hangs {m : Gen} (hs : m.state = .transfer) (h : m.serial.base.Hangs)
    (hrst : m.port.inp.rst = false) (hheld : m.port.inp.ConfigHeld .gen) : m.tickNext.state = .transfer ∧
    m.tickNext.serial.base = m.serial.base.tickCounter m.par.cycleBits false := by
  obtain ⟨p, htick⟩ := Gen.tickNext_of_held hrst hheld
  rw [htick, Gen.stateTick_of_transfer hs]
  exact ⟨(if_neg (Serial.transferEnds_of_hangs h)).trans hs, Serial.transferTick_base_of_hangs h⟩

theorem Att.tickNext_of_hangs {m : Att} (hs : m.state = .transfer) (h : m.serial.base.Hangs)
    (hrst : m.port.inp.rst = false) (hheld : m.port.inp.ConfigHeld .att) : m.tickNext.state = .transfer ∧
    m.tickNext.serial.base = m.serial.base.tickCounter m.par.cycleBits false := by
  obtain ⟨p, htick⟩ := Att.tickNext_of_held hrst hheld
  rw [htick, Att.stateTick_of_transfer hs]
  exact ⟨(if_neg (Serial.transferEnds_of_hangs h)).trans hs, Serial.transferTick_base_of_hangs h⟩

theorem Spi.tickNext_of_hangs {m : Spi} (hs : m.state = .transfer) (h : m.serial.base.Hangs)
    (hrst : m.port.inp.rst = false) (hheld : m.port.inp.ConfigHeld .spi) : m.tickNext.state = .transfer ∧
    m.tickNext.serial.base = m.serial.base.tickCounter m.par.cycleBits false := by
  obtain ⟨o, p, htick⟩ := Spi.tickNext_of_held hrst hheld
  rw [htick, Spi.stateTick_of_transfer hs]
  exact ⟨(if_neg (Serial.transferEnds_of_hangs h)).trans hs, Serial.transferTick_base_of_hangs h⟩

end Hang

/-- Settles O55: without a data event the tick moves the counter alone, in every variant, and `rem` ≠ 0 keeps the exit
closed. -/
theorem unreachableDataHangs : Obligations.UnreachableDataHangs := by
  intro s t hstep
  obtain ⟨-, rfl⟩ := step_eq_next.1 hstep
  refine ⟨?gen, ?att, ?spi, ?i2c⟩ <;> intro hr hs hlate hcnt hrem hrst hheld
  case gen =>
    have hhangs : s.gen.serial.base.Hangs := ⟨hlate, hcnt, hrem⟩
    obtain ⟨hstate, hbase⟩ := Gen.tickNext_of_hangs hs hhangs hrst hheld
    exact ⟨hr.tickNext, hstate, hhangs.of_tickCounter hr.base hbase⟩
  case att =>
    have hhangs : s.att.serial.base.Hangs := ⟨hlate, hcnt, hrem⟩
    obtain ⟨hstate, hbase⟩ := Att.tickNext_of_hangs hs hhangs hrst hheld
    exact ⟨hr.tickNext, hstate, hhangs.of_tickCounter hr.base hbase⟩
  case spi =>
    have hhangs : s.spi.serial.base.Hangs := ⟨hlate, hcnt, hrem⟩
    obtain ⟨hstate, hbase⟩ := Spi.tickNext_of_hangs hs hhangs hrst hheld
    exact ⟨hr.tickNext, hstate, hhangs.of_tickCounter hr.base hbase⟩
  case i2c =>
    have hhangs : s.i2c.base.Hangs := ⟨hlate, hcnt, hrem⟩
    obtain ⟨hstate, hbase⟩ := I2c.tickNext_of_hangs hs hhangs hrst hheld
    exact ⟨hr.tickNext, hstate, hhangs.of_tickCounter hr.base hbase⟩

/-! ## The bit cells of a well-timed transaction (43_generic_encoder.md R197)

The clock of a `TRANSFER` state, of the base: low from the start of a cycle to `clk_high`, and high after it. -/

/-- The clock in a cycle of `TRANSFER`. -/
structure Serial.Clocked (x : Serial) : Prop where
  cnt : x.base.cnt ≤ x.base.endCycle
  clk : x.clk = decide (x.base.clkHigh < x.base.cnt)

section BitCells

variable {d : Config.Dims} {x : Serial} {m : Gen}

/-- A cycle begins with the clock low. -/
theorem Serial.Clocked.of_first (hcnt : x.base.cnt = 0) (hclk : x.clk = false) : x.Clocked :=
  ⟨hcnt.trans_le (Nat.zero_le _), by simp [hcnt, hclk]⟩

theorem Serial.transferTick_clk_of_end (hend : x.base.cnt = x.base.endCycle) : (x.transferTick d).clk = false :=
  i2cClockEdges_of_end hend x.clk

/-- The base's rule keeps the clock where the counter says, in the middle of a cycle and at its end. -/
theorem Serial.Clocked.transferTick (h : x.Clocked) (hr : x.base.InRange d) : (x.transferTick d).Clocked := by
  obtain hmid | hend := h.cnt.lt_or_eq
  · have hcnt : (x.transferTick d).base.cnt = x.base.cnt + 1 := by
      rw [Serial.transferTick_base, Base.InRange.tickCounter_cnt (hr.shiftIf _) (by simpa using hmid),
        Base.ite_shift_cnt]
    have hclk : (x.transferTick d).clk = decide (x.base.clkHigh < x.base.cnt + 1) := by
      rw [Serial.transferTick_clk, h.clk]
      exact i2cClockEdges_of_mid hmid
    refine ⟨hcnt.trans_le (by simpa using hmid), ?_⟩
    rw [hclk, hcnt]
    simp
  · exact .of_first (by simp [hend]) (Serial.transferTick_clk_of_end hend)

/-- With `data` before `clk_high` the data line moves under a clock that is low in this tick and in the next. -/
theorem Serial.Clocked.clk_of_sdo_change (h : x.Clocked) (ht : x.WellTimed) (hne : (x.transferTick d).sdo ≠ x.sdo) :
    x.clk = false ∧ (x.transferTick d).clk = false := by
  have hdata : x.base.cnt = x.base.data := by
    by_contra hno
    exact hne (if_neg (by simpa using hno))
  have hbefore : x.base.cnt < x.base.clkHigh := hdata ▸ ht.dataLow
  have hlow : x.clk = false := by
    rw [h.clk]
    exact decide_eq_false hbefore.not_gt
  have hmid : x.base.cnt < x.base.endCycle := hbefore.trans ht.valid.clkHigh
  exact ⟨hlow, by simp [genClockEdges_eq, hmid.ne, hbefore.ne, hlow]⟩

theorem Gen.Phase.of_wait (hs : m.state = .wait) (hclk : m.serial.clk = false) : m.Phase :=
  ⟨fun _ => hclk, by simp [hs], by simp [hs]⟩

theorem Gen.Phase.of_transfer (hs : m.state = .transfer) (h : m.serial.Clocked) : m.Phase :=
  ⟨by simp [hs], fun _ => h.cnt, fun _ => h.clk⟩

theorem Gen.Phase.clocked (h : m.Phase) (hs : m.state = .transfer) : m.serial.Clocked := ⟨h.cnt hs, h.transfer hs⟩

theorem Gen.Phase.transferTick (h : m.Phase) (hr : m.InRange) (hs : m.state = .transfer) : m.transferTick.Phase := by
  by_cases hends : m.serial.transferEnds = true
  · exact .of_wait (if_pos hends) (Serial.transferTick_clk_of_end (m.serial.transferEnds_iff.1 hends).1)
  · exact .of_transfer ((if_neg hends).trans hs) ((h.clocked hs).transferTick hr.base)

/-- The phase is not about the host's side. -/
theorem Gen.Phase.withPort (h : m.Phase) (p : Port) : ({ m with port := p } : Gen).Phase := { h with }

/-- `WAIT` holds the clock low, and `TRANSFER` begins with it low, whatever timing is written in the accepting tick. -/
theorem Gen.Phase.tickNext_of_wait (h : m.Phase) (hs : m.state = .wait) (hrst : m.port.inp.rst = false) :
    m.tickNext.Phase := by
  obtain ⟨hstate, hclk, -⟩ := Gen.tickNext_lines hrst
  rw [Gen.stateTick_of_wait hs] at hstate hclk
  have hlow : m.tickNext.serial.clk = false := hclk.trans (h.wait hs)
  cases hready : m.port.inp.dataReady
  case false => exact .of_wait (by simp [hstate, hready, hs]) hlow
  case true => exact .of_transfer (by simp [hstate, hready]) (.of_first (by simp [Gen.tickNext_cnt, hs]) hlow)

theorem Gen.Phase.tickNext_of_reset (hrst : m.port.inp.rst = true) : m.tickNext.Phase := by
  rw [Gen.tickNext_eq_withConfigOf, Gen.tickNext_withoutWrite, Gen.stateNext, Port.readNext_inp, if_pos hrst]
  exact .of_wait rfl rfl

theorem Gen.Phase.tickNext (h : m.Phase) (hr : m.InRange) (hheld : m.state ≠ .wait → m.port.inp.ConfigHeld .gen) :
    m.tickNext.Phase := by
  cases hrst : m.port.inp.rst
  case true => exact .tickNext_of_reset hrst
  case false =>
    cases hs : m.state
    case wait => exact h.tickNext_of_wait hs hrst
    case transfer =>
      obtain ⟨p, htick⟩ := Gen.tickNext_of_held hrst (hheld (by simp [hs]))
      rw [htick, Gen.stateTick_of_transfer hs]
      exact (h.transferTick hr hs).withPort p

end BitCells

/-- Settles O48: the base's rule keeps the phase of its clock, the reset and the accepting tick leave it low; and the data line
moves at the data event of `TRANSFER` only, which comes before `clk_high`. -/
theorem genBitCells : Obligations.GenBitCells := by
  intro s t hr hphase ht hstep
  obtain ⟨-, rfl⟩ := step_eq_next.1 hstep
  refine ⟨hphase.tickNext hr fun hs => (ht hs).2, fun hrst hne => ?_⟩
  obtain ⟨-, hclk, hsdo⟩ : _ ∧ s.next.gen.serial.clk = _ ∧ s.next.gen.serial.sdo = _ := Gen.tickNext_lines hrst
  rw [hsdo] at hne
  rw [hclk]
  cases hs : s.gen.state
  case wait =>
    rw [Gen.stateTick_of_wait hs] at hne
    exact absurd rfl hne
  case transfer =>
    rw [Gen.stateTick_of_transfer hs] at hne ⊢
    exact (hphase.clocked hs).clk_of_sdo_change (ht (by simp [hs])).1 hne

/-! ## The course of a valid transaction (43_generic_encoder.md R198)

Of the base first. A `TRANSFER` tick of the base reads nothing from outside, so tick `k` of `TRANSFER` is the `k`-th iterate of
the base's rule: one bit goes out in each cycle, tick `i` of cycle `c` holds `i` in the counter and the shifter after one shift
for each data event so far (`Serial.AtTick`), and the exit test holds in the last tick of the cycle of the last bit. -/

/-- The common registers under a valid configuration (70_reset_and_hazards.md R305): the data event before the end of a cycle
that the counter can reach. -/
structure Base.ValidCycle (cycleBits : Nat) (b : Base) : Prop where
  endCycle : b.endCycle < 2 ^ cycleBits
  data : b.data < b.endCycle

/-- The data events before tick `i` of cycle `c` of `TRANSFER`. -/
def serialBitsAt (b : Base) (c i : Nat) : Nat := c + if b.data < i then 1 else 0

/-- The base in tick `i` of cycle `c` of `TRANSFER`, of the transaction of the loaded shifter `b`. -/
def Serial.AtTick (b : Base) (c i : Nat) (x : Serial) : Prop :=
  x.base = { Base.shift^[serialBitsAt b c i] b with cnt := i }

/-- The ticks of `TRANSFER` of one variant, as long as `inTransfer` holds: each is the base's rule, and `TRANSFER` goes on
until the exit test holds. -/
structure Serial.TransferRun (d : Config.Dims) (inTransfer : Nat → Prop) (x : Nat → Serial) (B : Nat) : Prop where
  first : inTransfer 0
  tick : ∀ k < B, inTransfer k → x (k + 1) = (x k).transferTick d
  stay : ∀ k < B, inTransfer k → ¬ (x k).transferEnds = true → inTransfer (k + 1)

section Transfer

variable {d : Config.Dims} {b : Base} {c i : Nat} {x : Serial}

theorem serialBitsAt_zero (b : Base) (c : Nat) : serialBitsAt b c 0 = c := rfl

/-- One more tick of a cycle has seen its data event if this tick is it. -/
theorem serialBitsAt_succ (b : Base) (c i : Nat) :
    serialBitsAt b c (i + 1) = serialBitsAt b c i + if i = b.data then 1 else 0 := by
  unfold serialBitsAt
  split_ifs <;> omega

/-- Past its data event a cycle has sent its bit. -/
theorem serialBitsAt_of_lt (h : b.data < i) : serialBitsAt b c i = c + 1 := by rw [serialBitsAt, if_pos h]

theorem Serial.AtTick.of_first (hcnt : x.base.cnt = 0) : x.AtTick x.base 0 0 := by
  rw [Serial.AtTick, serialBitsAt_zero, Function.iterate_zero_apply, ← hcnt]

theorem Serial.AtTick.cnt (h : x.AtTick b c i) : x.base.cnt = i := by rw [h]

theorem Serial.AtTick.endCycle (h : x.AtTick b c i) : x.base.endCycle = b.endCycle := by
  rw [h]
  exact b.shift_iterate_endCycle _

theorem Serial.AtTick.data (h : x.AtTick b c i) : x.base.data = b.data := by
  rw [h]
  exact b.shift_iterate_data _

theorem Serial.AtTick.rem (h : x.AtTick b c i) : x.base.rem = b.rem - serialBitsAt b c i := by
  rw [h]
  exact b.shift_iterate_rem _

/-- The base's rule shifts when the count of data events says so. -/
theorem Serial.AtTick.transferTick_base (h : x.AtTick b c i) : (x.transferTick d).base =
    { Base.shift^[serialBitsAt b c (i + 1)] b with cnt := if i = b.endCycle then 0 else (i + 1) % 2 ^ d.cycleBits } := by
  have hshift : (if x.base.evData then x.base.shift else x.base) =
      { Base.shift^[serialBitsAt b c (i + 1)] b with cnt := i } := by
    simp only [Base.evData_iff, h.cnt, h.data]
    rw [serialBitsAt_succ, h, Base.shift_withCnt]
    split
    · rw [Function.iterate_succ_apply']
    · rfl
  rw [Serial.transferTick_base, hshift, Base.tickCounter_false]
  simp only [Base.shift_iterate_endCycle]

/-- The next tick of the same cycle. -/
theorem Serial.AtTick.next_of_mid (h : x.AtTick b c i) (hb : b.ValidCycle d.cycleBits) (hi : i < b.endCycle) :
    (x.transferTick d).AtTick b c (i + 1) := by
  rw [Serial.AtTick, h.transferTick_base, if_neg hi.ne, Nat.mod_eq_of_lt (Nat.lt_of_le_of_lt hi hb.endCycle)]

/-- The first tick of the next cycle. -/
theorem Serial.AtTick.next_of_end (h : x.AtTick b c b.endCycle) (hb : b.ValidCycle d.cycleBits) :
    (x.transferTick d).AtTick b (c + 1) 0 := by
  rw [Serial.AtTick, h.transferTick_base, if_pos rfl, serialBitsAt_of_lt (hb.data.trans (Nat.lt_succ_self _)),
    serialBitsAt_zero]

theorem Serial.AtTick.iterate_mid (h : x.AtTick b c 0) (hb : b.ValidCycle d.cycleBits) (hi : i ≤ b.endCycle) :
    ((Serial.transferTick d)^[i] x).AtTick b c i := by
  induction i with
  | zero => exact h
  | succ i ih =>
    rw [Function.iterate_succ_apply']
    exact (ih (Nat.le_of_succ_le hi)).next_of_mid hb hi

theorem Serial.AtTick.iterate_cycle (h : x.AtTick b c 0) (hb : b.ValidCycle d.cycleBits) :
    ((Serial.transferTick d)^[b.endCycle + 1] x).AtTick b (c + 1) 0 := by
  rw [Function.iterate_succ_apply']
  exact (h.iterate_mid hb le_rfl).next_of_end hb

theorem Serial.AtTick.iterate_first (h : x.AtTick b 0 0) (hb : b.ValidCycle d.cycleBits) (c : Nat) :
    ((Serial.transferTick d)^[(b.endCycle + 1) * c] x).AtTick b c 0 := by
  induction c with
  | zero => exact h
  | succ c ih =>
    rw [Nat.mul_succ, Nat.add_comm ((b.endCycle + 1) * c), Function.iterate_add_apply]
    exact ih.iterate_cycle hb

/-- Every tick of `TRANSFER`, by its cycle and its place in the cycle. -/
theorem Serial.AtTick.iterate (h : x.AtTick b 0 0) (hb : b.ValidCycle d.cycleBits) (c : Nat) (hi : i ≤ b.endCycle) :
    ((Serial.transferTick d)^[(b.endCycle + 1) * c + i] x).AtTick b c i := by
  rw [Nat.add_comm, Function.iterate_add_apply]
  exact (h.iterate_first hb c).iterate_mid hb hi

/-- The exit test holds at the end of the cycle of the last bit, and of any cycle after it. -/
theorem Serial.AtTick.transferEnds_iff (h : x.AtTick b c i) (hb : b.ValidCycle d.cycleBits) :
    x.transferEnds = true ↔ i = b.endCycle ∧ b.rem ≤ c + 1 := by
  rw [Serial.transferEnds_iff, h.cnt, h.endCycle, h.rem, Nat.sub_eq_zero_iff_le]
  refine and_congr_right fun hi => ?_
  rw [hi, serialBitsAt_of_lt hb.data]

theorem Serial.AtTick.not_transferEnds_iterate (h : x.AtTick b 0 0) (hb : b.ValidCycle d.cycleBits) {k : Nat}
    (hk : k + 1 < (b.endCycle + 1) * b.rem) : ¬ ((Serial.transferTick d)^[k] x).transferEnds = true := by
  have hi : k % (b.endCycle + 1) < b.endCycle + 1 := Nat.mod_lt _ (Nat.succ_pos _)
  have hsplit : (b.endCycle + 1) * (k / (b.endCycle + 1)) + k % (b.endCycle + 1) = k := Nat.div_add_mod _ _
  have hat := h.iterate hb (k / (b.endCycle + 1)) (Nat.le_of_lt_succ hi)
  rw [hsplit] at hat
  rw [hat.transferEnds_iff hb]
  rintro ⟨hend, hlast⟩
  have hle : (b.endCycle + 1) * b.rem ≤ (b.endCycle + 1) * (k / (b.endCycle + 1) + 1) := Nat.mul_le_mul_left _ hlast
  rw [Nat.mul_succ] at hle
  omega

theorem Serial.AtTick.transferEnds_iterate (h : x.AtTick b 0 0) (hb : b.ValidCycle d.cycleBits) {k : Nat}
    (hk : k + 1 = (b.endCycle + 1) * b.rem) : ((Serial.transferTick d)^[k] x).transferEnds = true := by
  obtain ⟨w, hw⟩ : ∃ w, b.rem = w + 1 := Nat.exists_eq_succ_of_ne_zero fun h0 => by simp [h0] at hk
  have hlast : k = (b.endCycle + 1) * w + b.endCycle := by
    rw [hw, Nat.mul_succ] at hk
    omega
  rw [hlast, (h.iterate hb w le_rfl).transferEnds_iff hb]
  exact ⟨rfl, hw.le⟩

/-- The data event of cycle `j` puts bit `j` on the data line. -/
theorem Serial.AtTick.sdo_of_data (h : x.AtTick b c b.data) : (x.transferTick d).sdo = b.sr.testBit c := by
  have hbits : serialBitsAt b c b.data = c := by simp [serialBitsAt]
  have hbit : x.base.shiftBit = (Base.shift^[c] b).shiftBit := by
    rw [h, hbits]
    rfl
  rw [Serial.transferTick_sdo, if_pos ((Base.evData_iff _).2 (h.cnt.trans h.data.symm)), hbit,
    Base.shift_iterate_shiftBit]

/-- As many shifts as there are bits underflow nothing. -/
theorem Serial.AtTick.faultUnderflow_of_last (h : x.AtTick b b.rem 0) :
    x.base.faultUnderflow = b.faultUnderflow := by
  rw [h, serialBitsAt_zero]
  simp [Base.shift_iterate_faultUnderflow]

variable {inTransfer : Nat → Prop} {y : Nat → Serial} {B : Nat}

/-- `TRANSFER` lasts one cycle for each bit, and each of its ticks is an iterate of the base's rule. -/
theorem Serial.TransferRun.inTransfer_iterate (hrun : TransferRun d inTransfer y B) (hfirst : (y 0).AtTick b 0 0)
    (hb : b.ValidCycle d.cycleBits) (hB : B = (b.endCycle + 1) * b.rem) {k : Nat} (hk : k < B) :
    inTransfer k ∧ y k = (Serial.transferTick d)^[k] (y 0) := by
  induction k with
  | zero => exact ⟨hrun.first, rfl⟩
  | succ k ih =>
    have hlt : k < B := Nat.lt_of_succ_lt hk
    obtain ⟨htransfer, hiterate⟩ := ih hlt
    refine ⟨hrun.stay k hlt htransfer ?_, ?_⟩
    · rw [hiterate]
      exact hfirst.not_transferEnds_iterate hb (hB ▸ hk)
    · rw [hrun.tick k hlt htransfer, hiterate, Function.iterate_succ_apply']

theorem Serial.TransferRun.atTick (hrun : TransferRun d inTransfer y B) (hfirst : (y 0).AtTick b 0 0)
    (hb : b.ValidCycle d.cycleBits) (hB : B = (b.endCycle + 1) * b.rem) (hc : c < b.rem) (hi : i ≤ b.endCycle) :
    inTransfer ((b.endCycle + 1) * c + i) ∧ (y ((b.endCycle + 1) * c + i)).AtTick b c i := by
  have hle : (b.endCycle + 1) * (c + 1) ≤ B := hB ▸ Nat.mul_le_mul_left _ hc
  rw [Nat.mul_succ] at hle
  obtain ⟨htransfer, hiterate⟩ := hrun.inTransfer_iterate hfirst hb hB (k := (b.endCycle + 1) * c + i) (by omega)
  rw [hiterate]
  exact ⟨htransfer, hfirst.iterate hb c hi⟩

/-- The tick after the data event of cycle `j`. -/
theorem Serial.TransferRun.sdo_of_bit (hrun : TransferRun d inTransfer y B) (hfirst : (y 0).AtTick b 0 0)
    (hb : b.ValidCycle d.cycleBits) (hB : B = (b.endCycle + 1) * b.rem) {j : Nat} (hj : j < b.rem) :
    (y ((b.endCycle + 1) * j + b.data + 1)).sdo = b.sr.testBit j := by
  obtain ⟨htransfer, hat⟩ := hrun.atTick hfirst hb hB hj hb.data.le
  have hle : (b.endCycle + 1) * (j + 1) ≤ B := hB ▸ Nat.mul_le_mul_left _ hj
  rw [Nat.mul_succ] at hle
  have hdata := hb.data
  rw [hrun.tick _ (by omega) htransfer]
  exact hat.sdo_of_data

/-- The last tick of `TRANSFER` and the tick after it: the exit test holds, and every bit is out and none too many. -/
theorem Serial.TransferRun.finish (hrun : TransferRun d inTransfer y (B + 1)) (hfirst : (y 0).AtTick b 0 0)
    (hb : b.ValidCycle d.cycleBits) (hB : B + 1 = (b.endCycle + 1) * b.rem) : inTransfer B ∧
    (y B).transferEnds = true ∧ (y (B + 1)).base.faultUnderflow = b.faultUnderflow := by
  obtain ⟨htransfer, hiterate⟩ := hrun.inTransfer_iterate hfirst hb hB (Nat.lt_succ_self B)
  have hnext : y (B + 1) = (Serial.transferTick d)^[B + 1] (y 0) := by
    rw [hrun.tick B (Nat.lt_succ_self B) htransfer, hiterate, Function.iterate_succ_apply']
  have hlast := hfirst.iterate_first hb b.rem
  rw [← hB, ← hnext] at hlast
  refine ⟨htransfer, ?_, hlast.faultUnderflow_of_last⟩
  rw [hiterate]
  exact hfirst.transferEnds_iterate hb hB

end Transfer

/-- The ticks of the busy part of a GEN transaction, as state rules: no reset, and no write to a timing register. -/
def Gen.HeldRun (g : Nat → Gen) (B : Nat) : Prop :=
  ∀ k, 1 ≤ k → k ≤ B → ∃ p, g (k + 1) = { (g k).stateTick with port := p }

/-- GEN in `TRANSFER`, with its parameters. -/
def Gen.InTransfer (p : Config.GenParams) (m : Gen) : Prop := m.state = .transfer ∧ m.par = p

/-- From the tick after the request on, GEN runs the base's rule until the exit test holds. -/
theorem Gen.HeldRun.transferRun {g : Nat → Gen} {B : Nat} (hrun : HeldRun g B) (hs : (g 1).state = .transfer) :
    Serial.TransferRun (g 1).par.toDims (fun k => (g (k + 1)).InTransfer (g 1).par) (fun k => (g (k + 1)).serial) B where
  first := ⟨hs, rfl⟩
  tick k hk h := by
    obtain ⟨hstate, hpar⟩ := h
    obtain ⟨p, htick⟩ := hrun (k + 1) (Nat.succ_pos k) hk
    rw [htick, Gen.stateTick_of_transfer hstate, ← hpar]
    rfl
  stay k hk h hends := by
    obtain ⟨hstate, hpar⟩ := h
    obtain ⟨p, htick⟩ := hrun (k + 1) (Nat.succ_pos k) hk
    rw [htick, Gen.stateTick_of_transfer hstate]
    exact ⟨(if_neg hends).trans hstate, hpar⟩

/-- The tick in `TRANSFER` in which the exit test holds leaves for `WAIT`. -/
theorem Gen.HeldRun.state_of_transferEnds {g : Nat → Gen} {B k : Nat} (hrun : HeldRun g B) (h1 : 1 ≤ k) (hk : k ≤ B)
    (hs : (g k).state = .transfer) (hends : (g k).serial.transferEnds = true) : (g (k + 1)).state = .wait := by
  obtain ⟨p, htick⟩ := hrun k h1 hk
  rw [htick, Gen.stateTick_of_transfer hs]
  exact if_pos hends

/-- The tick that accepts a request loads the shifter and leaves for `TRANSFER` (43_generic_encoder.md R190). -/
theorem Gen.tickNext_of_accept {m : Gen} (hs : m.state = .wait) (hready : m.port.inp.dataReady = true)
    (hrst : m.port.inp.rst = false) :
    m.tickNext.state = .transfer ∧ m.tickNext.serial.base.cnt = 0 ∧ m.tickNext.serial.base.rem = m.par.width ∧
    m.tickNext.serial.base.sr = trunc m.par.width m.port.inp.payload ∧
    m.tickNext.serial.base.faultUnderflow = m.serial.base.faultUnderflow := by
  have hshifter : m.tickNext.serial.base.rem = m.stateTick.serial.base.rem ∧
      m.tickNext.serial.base.sr = m.stateTick.serial.base.sr := by
    rw [Gen.tickNext_eq_withConfigOf, Gen.tickNext_withoutWrite, Gen.stateNext_of_noReset (by simpa using hrst),
      Gen.stateTick_readNext]
    exact ⟨rfl, rfl⟩
  rw [Gen.stateTick_of_wait hs] at hshifter
  obtain ⟨hrem, hsr⟩ := hshifter
  refine ⟨?_, by simp [Gen.tickNext_cnt, hs], hrem, hsr, by simp [Gen.tickNext_faultUnderflow, hs]⟩
  rw [(Gen.tickNext_lines hrst).1, Gen.stateTick_of_wait hs, Gen.waitTick_state, if_pos hready]

/-- Settles O51: the tick after the request is the first of `TRANSFER`, from where GEN runs the base's rule for one cycle per
bit and then leaves for `WAIT`. -/
theorem genTransaction : Obligations.GenTransaction := by
  intro f E W B hr hs hready hW hE hvalid hB hruns hrst hheld
  have htick (k : Nat) (hk : k ≤ B) : (f (k + 1)).gen = (f k).gen.tickNext := by
    rw [(step_eq_next.1 (hruns k (by omega))).2]
    rfl
  have hrun : Gen.HeldRun (fun k => (f k).gen) B := fun k h1 hk => by
    obtain ⟨p, h⟩ := Gen.tickNext_of_held (hrst k hk) (hheld k h1 hk)
    exact ⟨p, (htick k hk).trans h⟩
  have hr1 : (f 1).gen.InRange := htick 0 (Nat.zero_le _) ▸ hr.tickNext
  obtain ⟨hstart, hcnt, hrem, hsr, hfault⟩ := Gen.tickNext_of_accept hs hready (hrst 0 (Nat.zero_le _))
  rw [← htick 0 (Nat.zero_le _)] at hstart hcnt hrem hsr hfault
  rw [← hW] at hrem hsr
  have hpos : 0 < W := hW ▸ hr.par.1.2
  have hb : (f 1).gen.serial.base.ValidCycle (f 1).gen.par.cycleBits := ⟨hr1.base.endCycle, hvalid.data⟩
  have hfirst := Serial.AtTick.of_first hcnt
  have htransfer := hrun.transferRun hstart
  have hB' : B = ((f 1).gen.serial.base.endCycle + 1) * (f 1).gen.serial.base.rem := by rw [hB, hE, hrem]
  have hbusy (k : Nat) (hk : k < B) : (f (k + 1)).gen.state = .transfer :=
    (htransfer.inTransfer_iterate hfirst hb hB' hk).1.1
  obtain ⟨l, rfl⟩ : ∃ l, B = l + 1 := Nat.exists_eq_succ_of_ne_zero (by rw [hB]; positivity)
  obtain ⟨-, hends, hflag⟩ := htransfer.finish hfirst hb hB'
  refine ⟨fun j hj => ?bits, fun k h1 hk => ?busy, ?idle, hflag.trans hfault⟩
  case bits =>
    have hbit := htransfer.sdo_of_bit hfirst hb hB' (hrem.symm ▸ hj)
    rw [hsr, ← hE, trunc, Nat.testBit_mod_two_pow, decide_eq_true hj, Bool.true_and] at hbit
    have hk : 2 + j * (E + 1) + (f 1).gen.serial.base.data =
        (E + 1) * j + (f 1).gen.serial.base.data + 1 + 1 := by
      rw [Nat.mul_comm]
      omega
    rw [hk]
    exact hbit
  case busy =>
    obtain ⟨i, rfl⟩ := Nat.exists_eq_add_of_le' h1
    simp [Gen.busy, hbusy i hk]
  case idle =>
    have hwait := hrun.state_of_transferEnds (Nat.succ_pos l) le_rfl (hbusy l (Nat.lt_succ_self l)) hends
    simp [Gen.busy, hwait]

end Sys2Proof.Machine
end

section
/-! PROOFS. The attenuator latch (44_attenuator_latch.md): the result of `LATCH`; the phase of the clock and of the
latch-enable line in a valid transaction; and the course of a valid transaction, the base's `TRANSFER` and then the latch counter
from 0 to `le_low`. -/

namespace Sys2Proof.Machine

/-! ## The result of `LATCH` (44_attenuator_latch.md R208) -/

theorem exec_attLatch : ∀ s : State, exec .attLatch s = .next (s.withAtt s.att.latchTick) := by intros; rfl

/-- The base in a state that neither loads nor shifts, in the raw fields (40_timing_base.md R121). -/
theorem Serial.holdTick_eq (d : Config.Dims) (x : Serial) : x.holdTick d =
    { x with base := { x.base with
        cnt := if x.base.cnt = x.base.endCycle then 0 else (x.base.cnt + 1) % 2 ^ d.cycleBits } } := by
  rw [Serial.holdTick, Base.tickCounter_false]

/-- Settles O11: `LATCH` holds the base but for its counter, and `le_low` wins over `le_high`. -/
theorem attLatchResult : Obligations.AttLatchResult := by
  intro s
  simp [exec_attLatch, State.withAtt, Att.latchTick, Serial.holdTick_eq, nextLcnt, trunc]

theorem Att.stateTick_of_latch {m : Att} (h : m.state = .latch) : m.stateTick = m.latchTick := by
  simp [Att.stateTick, h]

/-- Up to `le_low` the latch counter does not wrap around. -/
theorem Att.latchTick_lcnt_of_lt {m : Att} (hfits : m.par.Fits m.leLow) (hlt : m.lcnt < m.leLow) :
    m.latchTick.lcnt = m.lcnt + 1 := by
  rw [Att.latchTick_lcnt, trunc_of_lt (Nat.lt_of_le_of_lt hlt hfits)]

/-! ## The latch pulse (44_attenuator_latch.md R213)

The clock is that of the base (43_generic_encoder.md R197), and low outside `TRANSFER`; `le` is low outside `LATCH`, where it
follows the latch counter as the clock follows the cycle counter. -/

section LatchPulse

variable {m : Att}

theorem Att.Phase.of_wait (hs : m.state = .wait) (hclk : m.serial.clk = false) (hle : m.le = false) : m.Phase :=
  ⟨fun _ => hclk, by simp [hs], by simp [hs], fun _ => hle, by simp [hs], by simp [hs]⟩

theorem Att.Phase.of_transfer (hs : m.state = .transfer) (h : m.serial.Clocked) (hle : m.le = false) : m.Phase :=
  ⟨absurd hs, fun _ => h.cnt, fun _ => h.clk, fun _ => hle, by simp [hs], by simp [hs]⟩

theorem Att.Phase.of_latch (hs : m.state = .latch) (hclk : m.serial.clk = false) (hlcnt : m.lcnt ≤ m.leLow)
    (hle : m.le = decide (m.leHigh < m.lcnt)) : m.Phase :=
  ⟨fun _ => hclk, by simp [hs], by simp [hs], absurd hs, fun _ => hlcnt, fun _ => hle⟩

theorem Att.Phase.clocked (h : m.Phase) (hs : m.state = .transfer) : m.serial.Clocked := ⟨h.cnt hs, h.transfer hs⟩

/-- `LATCH` is entered with the clock and `le` low and the latch counter at 0. -/
theorem Att.Phase.transferTick (h : m.Phase) (hr : m.InRange) (hs : m.state = .transfer) : m.transferTick.Phase := by
  have hle : m.le = false := h.leLow (by simp [hs])
  by_cases hends : m.serial.transferEnds = true
  · exact .of_latch (if_pos hends) (Serial.transferTick_clk_of_end (m.serial.transferEnds_iff.1 hends).1)
      (Nat.zero_le _) (by simp [hle])
  · exact .of_transfer ((if_neg hends).trans hs) ((h.clocked hs).transferTick hr.base) hle

/-- Before `le_low` the latch-enable line rises at `le_high` and stays high. -/
theorem Att.latchTick_le_of_lt (hlt : m.lcnt < m.leLow) (hle : m.le = decide (m.leHigh < m.lcnt)) :
    m.latchTick.le = decide (m.leHigh < m.lcnt + 1) := by
  rw [Att.latchTick_le, if_neg (by simpa using hlt.ne), hle]
  by_cases hrise : m.lcnt = m.leHigh
  · simp [hrise]
  · rw [if_neg (by simpa using hrise), decide_eq_decide]
    omega

theorem Att.Phase.latchTick (h : m.Phase) (hr : m.InRange) (hs : m.state = .latch) : m.latchTick.Phase := by
  have hclk : m.serial.clk = false := h.rest (by simp [hs])
  obtain hmid | hlast := (h.lcnt hs).lt_or_eq
  · have hlcnt : m.latchTick.lcnt = m.lcnt + 1 := Att.latchTick_lcnt_of_lt hr.leLow hmid
    refine .of_latch (by simp [hs, hmid.ne]) hclk (hlcnt.trans_le hmid) ?_
    rw [hlcnt]
    exact Att.latchTick_le_of_lt hmid (h.latch hs)
  · exact .of_wait (by simp [hlast]) hclk (by simp [hlast])

/-- The phase is not about the host's side. -/
theorem Att.Phase.withPort (h : m.Phase) (p : Port) : ({ m with port := p } : Att).Phase := { h with }

/-- `WAIT` holds its lines low, and `TRANSFER` begins with them low, whatever timing is written in the accepting tick. -/
theorem Att.Phase.tickNext_of_wait (h : m.Phase) (hs : m.state = .wait) (hrst : m.port.inp.rst = false) :
    m.tickNext.Phase := by
  obtain ⟨hstate, hclk, -, hle⟩ := Att.tickNext_lines hrst
  rw [Att.stateTick_of_wait hs] at hstate hclk hle
  have hclkLow : m.tickNext.serial.clk = false := hclk.trans (h.rest (by simp [hs]))
  have hleLow : m.tickNext.le = false := hle.trans (h.leLow (by simp [hs]))
  cases hready : m.port.inp.dataReady
  case false => exact .of_wait (by simp [hstate, hready, hs]) hclkLow hleLow
  case true => exact .of_transfer (by simp [hstate, hready]) (.of_first (by simp [Att.tickNext_cnt, hs]) hclkLow) hleLow

theorem Att.Phase.tickNext_of_reset (hrst : m.port.inp.rst = true) : m.tickNext.Phase := by
  rw [Att.tickNext_eq_withConfigOf, Att.tickNext_withoutWrite, Att.stateNext, Port.readNext_inp, if_pos hrst]
  exact .of_wait rfl rfl rfl

theorem Att.Phase.stateTick_of_busy (h : m.Phase) (hr : m.InRange) (hbusy : m.state ≠ .wait) : m.stateTick.Phase := by
  unfold Att.stateTick
  split
  case h_1 hs => exact absurd hs hbusy
  case h_2 hs => exact h.transferTick hr hs
  case h_3 hs => exact h.latchTick hr hs

theorem Att.Phase.tickNext (h : m.Phase) (hr : m.InRange) (hheld : m.state ≠ .wait → m.port.inp.ConfigHeld .att) :
    m.tickNext.Phase := by
  cases hrst : m.port.inp.rst
  case true => exact .tickNext_of_reset hrst
  case false =>
    by_cases hs : m.state = .wait
    · exact h.tickNext_of_wait hs hrst
    · obtain ⟨p, htick⟩ := Att.tickNext_of_held hrst (hheld hs)
      rw [htick]
      exact (h.stateTick_of_busy hr hs).withPort p

end LatchPulse

/-- Settles O49: each state rule keeps the phase, the reset and the accepting tick leave both lines low. Of the premises on the
timing it needs that no timing register moves; where the registers stand it does not matter. -/
theorem attLatchPulse : Obligations.AttLatchPulse := by
  intro s t hr hphase ht hstep
  obtain ⟨-, rfl⟩ := step_eq_next.1 hstep
  refine hphase.tickNext hr fun hbusy => ?_
  obtain ⟨-, -, hheld⟩ := ht hbusy
  exact hheld

/-! ## The course of a valid transaction (44_attenuator_latch.md R209, R214)

`TRANSFER` is a `Serial.TransferRun`, as in GEN. It leaves for `LATCH` with the latch counter at 0, and tick `k` of `LATCH` holds
`k` in it (`Att.AtLatch`) up to the tick in which it is `le_low`. -/

/-- ATT in `TRANSFER`, with the parameters and the `le_low` of `q`. -/
structure Att.InTransfer (m q : Att) : Prop where
  state : m.state = .transfer
  par : m.par = q.par
  leLow : m.leLow = q.leLow

/-- ATT in tick `k` of `LATCH`, with the parameters, the `le_low` and the underflow flag of `q`. -/
structure Att.AtLatch (m q : Att) (k : Nat) : Prop where
  state : m.state = .latch
  lcnt : m.lcnt = k
  par : m.par = q.par
  leLow : m.leLow = q.leLow
  faultUnderflow : m.serial.base.faultUnderflow = q.serial.base.faultUnderflow

/-- The ticks of the busy part of an ATT transaction, as state rules: no reset, and no write to a timing register. -/
def Att.HeldRun (g : Nat → Att) (B : Nat) : Prop :=
  ∀ k, 1 ≤ k → k ≤ B → ∃ p, g (k + 1) = { (g k).stateTick with port := p }

section Transaction

variable {m q : Att} {k : Nat}

theorem Att.InTransfer.transferTick_of_not_ends (h : m.InTransfer q) (hends : ¬ m.serial.transferEnds = true) :
    m.transferTick.InTransfer q :=
  ⟨(if_neg hends).trans h.state, h.par, h.leLow⟩

/-- The tick in which the exit test holds leaves for `LATCH`, with the latch counter at 0. -/
theorem Att.InTransfer.transferTick_of_ends (h : m.InTransfer q) (hends : m.serial.transferEnds = true)
    (hflag : m.transferTick.serial.base.faultUnderflow = q.serial.base.faultUnderflow) : m.transferTick.AtLatch q 0 :=
  ⟨if_pos hends, rfl, h.par, h.leLow, hflag⟩

theorem Att.AtLatch.latchTick_of_lt (h : m.AtLatch q k) (hfits : q.par.Fits q.leLow) (hk : k < q.leLow) :
    m.latchTick.AtLatch q (k + 1) where
  state := by simp [h.lcnt, h.leLow, hk.ne, h.state]
  lcnt := by rw [Att.latchTick_lcnt_of_lt (by rwa [h.par, h.leLow]) (by rwa [h.lcnt, h.leLow]), h.lcnt]
  par := h.par
  leLow := h.leLow
  faultUnderflow := h.faultUnderflow

/-- `LATCH` ends in the tick in which the latch counter is `le_low`. -/
theorem Att.AtLatch.latchTick_of_last (h : m.AtLatch q q.leLow) : m.latchTick.state = .wait ∧
    m.latchTick.serial.base.faultUnderflow = q.serial.base.faultUnderflow :=
  ⟨by simp [h.lcnt, h.leLow], h.faultUnderflow⟩

theorem Att.InTransfer.withPort (h : m.InTransfer q) (p : Port) : ({ m with port := p } : Att).InTransfer q := { h with }

theorem Att.AtLatch.withPort (h : m.AtLatch q k) (p : Port) : ({ m with port := p } : Att).AtLatch q k := { h with }

variable {g : Nat → Att} {B T : Nat}

theorem Att.HeldRun.mono (hrun : HeldRun g B) (hT : T ≤ B) : HeldRun g T := fun k h1 hk => hrun k h1 (hk.trans hT)

/-- From the tick after the request on, ATT runs the base's rule until the exit test holds. -/
theorem Att.HeldRun.transferRun (hrun : HeldRun g B) (hs : (g 1).state = .transfer) :
    Serial.TransferRun (g 1).par.toDims (fun k => (g (k + 1)).InTransfer (g 1)) (fun k => (g (k + 1)).serial) B where
  first := ⟨hs, rfl, rfl⟩
  tick k hk h := by
    obtain ⟨p, htick⟩ := hrun (k + 1) (Nat.succ_pos k) hk
    rw [htick, Att.stateTick_of_transfer h.state, ← h.par]
    rfl
  stay k hk h hends := by
    obtain ⟨p, htick⟩ := hrun (k + 1) (Nat.succ_pos k) hk
    rw [htick, Att.stateTick_of_transfer h.state]
    exact (h.transferTick_of_not_ends hends).withPort p

/-- `TRANSFER` lasts one cycle for each bit. -/
theorem Att.HeldRun.inTransfer (hrun : HeldRun g T) (hs : (g 1).state = .transfer)
    (hfirst : (g 1).serial.AtTick (g 1).serial.base 0 0) (hb : (g 1).serial.base.ValidCycle (g 1).par.cycleBits)
    (hT : T = ((g 1).serial.base.endCycle + 1) * (g 1).serial.base.rem) (h1 : 1 ≤ k) (hk : k ≤ T) :
    (g k).InTransfer (g 1) := by
  obtain ⟨i, rfl⟩ := Nat.exists_eq_add_of_le' h1
  exact ((hrun.transferRun hs).inTransfer_iterate hfirst hb hT hk).1

/-- The tick after `TRANSFER` is the first of `LATCH`, with every bit out and none too many. -/
theorem Att.HeldRun.atLatch_first (hrun : HeldRun g T) (hs : (g 1).state = .transfer)
    (hfirst : (g 1).serial.AtTick (g 1).serial.base 0 0) (hb : (g 1).serial.base.ValidCycle (g 1).par.cycleBits)
    (hT : T = ((g 1).serial.base.endCycle + 1) * (g 1).serial.base.rem) (hpos : 0 < T) :
    (g (T + 1)).AtLatch (g 1) 0 := by
  obtain ⟨l, rfl⟩ : ∃ l, T = l + 1 := Nat.exists_eq_succ_of_ne_zero hpos.ne'
  obtain ⟨htransfer, hends, hflag⟩ := (hrun.transferRun hs).finish hfirst hb hT
  obtain ⟨p, htick⟩ := hrun (l + 1) hpos le_rfl
  rw [htick, Att.stateTick_of_transfer htransfer.state] at hflag ⊢
  exact (htransfer.transferTick_of_ends hends hflag).withPort p

/-- `LATCH` goes on until the latch counter is `le_low`. -/
theorem Att.HeldRun.atLatch (hrun : HeldRun g B) (h1 : 1 ≤ T) (hT : T + q.leLow ≤ B) (hfirst : (g T).AtLatch q 0)
    (hfits : q.par.Fits q.leLow) (hk : k ≤ q.leLow) : (g (T + k)).AtLatch q k := by
  induction k with
  | zero => exact hfirst
  | succ k ih =>
    have hat := ih (Nat.le_of_succ_le hk)
    obtain ⟨p, htick⟩ := hrun (T + k) (by omega) (by omega)
    rw [← Nat.add_assoc, htick, Att.stateTick_of_latch hat.state]
    exact (hat.latchTick_of_lt hfits hk).withPort p

theorem Att.HeldRun.state_of_lastLatch (hrun : HeldRun g B) (h1 : 1 ≤ k) (hk : k ≤ B) (h : (g k).AtLatch q q.leLow) :
    (g (k + 1)).state = .wait ∧ (g (k + 1)).serial.base.faultUnderflow = q.serial.base.faultUnderflow := by
  obtain ⟨p, htick⟩ := hrun k h1 hk
  rw [htick, Att.stateTick_of_latch h.state]
  exact h.latchTick_of_last

end Transaction

/-- Bit `j` of the payload that was loaded, in the tick after the data event of cycle `j` (41_bit_shifter.md R144). -/
theorem Serial.TransferRun.sdo_of_payloadBit {d : Config.Dims} {inTransfer : Nat → Prop} {y : Nat → Serial} {b : Base}
    {B payload j : Nat} (hrun : TransferRun d inTransfer y B) (hfirst : (y 0).AtTick b 0 0)
    (hb : b.ValidCycle d.cycleBits) (hB : B = (b.endCycle + 1) * b.rem) (hsr : b.sr = trunc b.rem payload)
    (hj : j < b.rem) : (y ((b.endCycle + 1) * j + b.data + 1)).sdo = payload.testBit j := by
  rw [hrun.sdo_of_bit hfirst hb hB hj, hsr, trunc, Nat.testBit_mod_two_pow, decide_eq_true hj, Bool.true_and]

/-- The tick that accepts a request loads the shifter and leaves for `TRANSFER` (43_generic_encoder.md R190). -/
theorem Att.tickNext_of_accept {m : Att} (hs : m.state = .wait) (hready : m.port.inp.dataReady = true)
    (hrst : m.port.inp.rst = false) :
    m.tickNext.state = .transfer ∧ m.tickNext.serial.base.cnt = 0 ∧ m.tickNext.serial.base.rem = m.par.width ∧
    m.tickNext.serial.base.sr = trunc m.par.width m.port.inp.payload ∧
    m.tickNext.serial.base.faultUnderflow = m.serial.base.faultUnderflow := by
  have hshifter : m.tickNext.serial.base.rem = m.stateTick.serial.base.rem ∧
      m.tickNext.serial.base.sr = m.stateTick.serial.base.sr := by
    rw [Att.tickNext_eq_withConfigOf, Att.tickNext_withoutWrite, Att.stateNext_of_noReset (by simpa using hrst),
      Att.stateTick_readNext]
    exact ⟨rfl, rfl⟩
  rw [Att.stateTick_of_wait hs] at hshifter
  obtain ⟨hrem, hsr⟩ := hshifter
  refine ⟨?_, by simp [Att.tickNext_cnt, hs], hrem, hsr, by simp [Att.tickNext_faultUnderflow, hs]⟩
  rw [(Att.tickNext_lines hrst).1, Att.stateTick_of_wait hs, Att.waitTick_state, if_pos hready]

theorem IsRun.next {f : Nat → State} {n k : Nat} (hruns : IsRun f n) (hk : k < n) : f (k + 1) = (f k).next :=
  (step_eq_next.1 (hruns k hk)).2

/-- A run of the machine, seen from ATT, under V2 and V3 of R305. -/
theorem Att.HeldRun.of_isRun {f : Nat → State} {B : Nat} (hruns : IsRun f (B + 1))
    (hrst : ∀ k ≤ B, (f k).att.port.inp.NoReset)
    (hheld : ∀ k, 1 ≤ k → k ≤ B → (f k).att.port.inp.ConfigHeld .att) : HeldRun (fun k => (f k).att) B := by
  intro k h1 hk
  obtain ⟨p, hheldTick⟩ := Att.tickNext_of_held (hrst k hk) (hheld k h1 hk)
  exact ⟨p, (congrArg State.att (hruns.next (Nat.lt_succ_of_le hk))).trans hheldTick⟩

/-- Settles O53: the tick after the request is the first of `TRANSFER`, from where ATT runs the base's rule for one cycle per
bit, leaves for `LATCH`, and counts from 0 to `le_low` there. -/
theorem attTransaction : Obligations.AttTransaction := by
  intro f E W B L hr hs hready hW hE hL hvalid hB hruns hrst hheld
  have hrun := Att.HeldRun.of_isRun hruns hrst hheld
  have haccept : (f 1).att = (f 0).att.tickNext := congrArg State.att (hruns.next (Nat.succ_pos B))
  have hr1 : (f 1).att.InRange := haccept ▸ hr.tickNext
  obtain ⟨hstart, hcnt, hrem, hsr, hfault⟩ := Att.tickNext_of_accept hs hready (hrst 0 (Nat.zero_le _))
  rw [← haccept] at hstart hcnt hrem hsr hfault
  rw [← hrem] at hsr
  rw [← hW] at hrem
  have hb : (f 1).att.serial.base.ValidCycle (f 1).att.par.cycleBits := ⟨hr1.base.endCycle, hvalid.data⟩
  have hfirst := Serial.AtTick.of_first hcnt
  have hpos : 0 < (E + 1) * W := Nat.mul_pos (Nat.succ_pos E) (hW ▸ hr.par.1.2)
  have hT : (E + 1) * W = ((f 1).att.serial.base.endCycle + 1) * (f 1).att.serial.base.rem := by rw [hE, hrem]
  have htransfer : Att.HeldRun (fun k => (f k).att) ((E + 1) * W) := hrun.mono (by omega)
  have htransferring (k : Nat) (h1 : 1 ≤ k) (hk : k ≤ (E + 1) * W) : (f k).att.state = .transfer :=
    (htransfer.inTransfer hstart hfirst hb hT h1 hk).state
  have hlatch0 := htransfer.atLatch_first hstart hfirst hb hT hpos
  have hlatching (k : Nat) (hk : k ≤ L) : (f ((E + 1) * W + 1 + k)).att.AtLatch (f 1).att k :=
    hrun.atLatch (by omega) (by omega) hlatch0 hr1.leLow (hL ▸ hk)
  obtain ⟨hwait, hclean⟩ := hrun.state_of_lastLatch (k := B) (by omega) le_rfl <| by
    rw [← hL, hB, Nat.add_right_comm]
    exact hlatching L le_rfl
  refine ⟨htransferring, fun k hk => ⟨(hlatching k hk).state, (hlatching k hk).lcnt⟩, fun j hj => ?bits,
    fun k h1 hk => ?busy, ?idle, hclean.trans hfault⟩
  case bits =>
    have hbit := (htransfer.transferRun hstart).sdo_of_payloadBit hfirst hb hT hsr (hrem.symm ▸ hj)
    rw [← hE] at hbit
    have hk : 2 + j * (E + 1) + (f 1).att.serial.base.data =
        (E + 1) * j + (f 1).att.serial.base.data + 1 + 1 := by
      rw [Nat.mul_comm]
      omega
    rw [hk]
    exact hbit
  case busy =>
    obtain hk1 | hk1 := Nat.lt_or_ge ((E + 1) * W) k
    · obtain ⟨i, rfl⟩ := Nat.exists_eq_add_of_le hk1
      exact bne_iff_ne.2 (by simp [(hlatching i (by omega)).state])
    · simp [Att.busy, htransferring k h1 hk1]
  case idle => simp [Att.busy, hwait]

end Sys2Proof.Machine
end

section
/-! PROOFS. The SPI extension (45_spi_extension.md): the results of `FIRSTCLK` and `CSN_HI`; where chip select can move; the
phase of the clock and of chip select in a well-timed transaction; and the course of a valid transaction, the base's `TRANSFER`
between two cycles in which only the counter of the base moves. -/

namespace Sys2Proof.Machine

/-! ## The results of `FIRSTCLK` and `CSN_HI` (45_spi_extension.md R221, R223) -/

theorem exec_spiFirstclk : ∀ s : State, exec .spiFirstclk s = .next (s.withSpi s.spi.firstclkTick) := by intros; rfl

theorem exec_spiCsnHi : ∀ s : State, exec .spiCsnHi s = .next (s.withSpi s.spi.csnHiTick) := by intros; rfl

/-- Settles O12: the base is held but for its counter, and the clock takes the generic clock action. -/
theorem spiFirstclkResult : Obligations.SpiFirstclkResult := by
  intro s
  simp [exec_spiFirstclk, State.withSpi, Spi.firstclkTick, Serial.holdTick_eq, genClockEdges_eq]

/-- Settles O14: the base is held but for its counter, and the clock and chip select are only raised. -/
theorem spiCsnHiResult : Obligations.SpiCsnHiResult := by
  intro s
  simp [exec_spiCsnHi, State.withSpi, Spi.csnHiTick, Serial.holdTick_eq]

theorem Spi.stateTick_of_firstclk {m : Spi} (h : m.state = .firstclk) : m.stateTick = m.firstclkTick := by
  simp [Spi.stateTick, h]

theorem Spi.stateTick_of_csnHi {m : Spi} (h : m.state = .csnHi) : m.stateTick = m.csnHiTick := by
  simp [Spi.stateTick, h]

@[simp] theorem Spi.stateTick_par (m : Spi) : m.stateTick.par = m.par := by
  unfold Spi.stateTick
  split <;> rfl

@[simp] theorem Spi.tickNext_par (m : Spi) : m.tickNext.par = m.par := by
  rw [Spi.tickNext_eq_withConfigOf, Spi.tickNext_withoutWrite]
  exact Spi.stateNext_par { m with port := m.port.readNext m.regValue }

/-- The tick that accepts a request loads the shifter and leaves for `FIRSTCLK` (45_spi_extension.md R220). -/
theorem Spi.tickNext_of_accept {m : Spi} (hs : m.state = .wait) (hready : m.port.inp.dataReady = true)
    (hrst : m.port.inp.rst = false) :
    m.tickNext.state = .firstclk ∧ m.tickNext.serial.base.cnt = 0 ∧ m.tickNext.serial.base.rem = m.par.width ∧
    m.tickNext.serial.base.sr = trunc m.par.width m.port.inp.payload ∧
    m.tickNext.serial.base.faultUnderflow = m.serial.base.faultUnderflow := by
  have hshifter : m.tickNext.serial.base.rem = m.stateTick.serial.base.rem ∧
      m.tickNext.serial.base.sr = m.stateTick.serial.base.sr := by
    rw [Spi.tickNext_eq_withConfigOf, Spi.tickNext_withoutWrite, Spi.stateNext_of_noReset (by simpa using hrst),
      Spi.stateTick_readNext]
    exact ⟨rfl, rfl⟩
  rw [Spi.stateTick_of_wait hs] at hshifter
  obtain ⟨hrem, hsr⟩ := hshifter
  refine ⟨?_, by simp [Spi.tickNext_cnt, hs], hrem, hsr, by simp [Spi.tickNext_faultUnderflow, hs]⟩
  rw [(Spi.tickNext_lines hrst).1, Spi.stateTick_of_wait hs, Spi.waitTick_state, if_pos hready]

/-- A reset leaves `WAIT` with the clock and chip select high (10_state.md R50). -/
theorem Spi.tickNext_of_reset {m : Spi} (hrst : m.port.inp.rst = true) :
    m.tickNext.state = .wait ∧ m.tickNext.serial.clk = true ∧ m.tickNext.csn = true := by
  rw [Spi.tickNext_eq_withConfigOf, Spi.tickNext_withoutWrite, Spi.stateNext, Port.readNext_inp, if_pos hrst]
  exact ⟨rfl, rfl, rfl⟩

/-! ## Where chip select moves (45_spi_extension.md R225) -/

/-- The only rules that write `csn` are those of `TRANSFER` and `CSN_HI`, each at the data event. -/
theorem Spi.stateTick_csn_change {m : Spi} (hne : m.stateTick.csn ≠ m.csn) : m.serial.base.evData = true ∧
    (m.state = .transfer ∧ m.stateTick.csn = false ∨ m.state = .csnHi ∧ m.stateTick.csn = true) := by
  cases hs : m.state
  case wait =>
    rw [Spi.stateTick_of_wait hs] at hne
    exact absurd m.waitTick_csn hne
  case firstclk =>
    rw [Spi.stateTick_of_firstclk hs] at hne
    exact absurd m.firstclkTick_csn hne
  case transfer =>
    rw [Spi.stateTick_of_transfer hs] at hne ⊢
    obtain ⟨hdata, -⟩ := ite_ne_right_iff.1 hne
    exact ⟨hdata, .inl ⟨rfl, if_pos hdata⟩⟩
  case csnHi =>
    rw [Spi.stateTick_of_csnHi hs] at hne ⊢
    obtain ⟨hdata, -⟩ := ite_ne_right_iff.1 hne
    exact ⟨hdata, .inr ⟨rfl, if_pos hdata⟩⟩

/-- Settles O44: without reset the tick leaves chip select where the state rule puts it; a reset puts it at 1. -/
theorem chipSelectAlignment : Obligations.ChipSelectAlignment := by
  intro s t hstep hne
  obtain ⟨-, rfl⟩ := step_eq_next.1 hstep
  cases hrst : s.spi.port.inp.rst
  case true =>
    obtain ⟨-, -, hcsn⟩ := Spi.tickNext_of_reset hrst
    exact .inr ⟨rfl, hcsn⟩
  case false =>
    obtain ⟨-, -, -, hcsn⟩ : _ ∧ _ ∧ _ ∧ s.next.spi.csn = s.spi.stateTick.csn := Spi.tickNext_lines hrst
    rw [hcsn] at hne ⊢
    exact .inl ⟨rfl, Spi.stateTick_csn_change hne⟩

/-! ## The waveform of a well-timed transaction (45_spi_extension.md R230)

The clock of `TRANSFER` is that of the base, low up to `clk_high` and high after it (`Serial.Clocked`). `CSN_HI` has the same
clock, and its chip select follows `data` as the clock follows `clk_high`. -/

section Waveform

variable {m : Spi}

theorem Spi.Phase.of_wait (hs : m.state = .wait) (hclk : m.serial.clk = true) (hcsn : m.csn = true) : m.Phase :=
  ⟨fun _ => ⟨hclk, hcsn⟩, by simp [hs], absurd hs, by simp [hs], by simp [hs], by simp [hs]⟩

theorem Spi.Phase.of_firstclk (hs : m.state = .firstclk) (hclk : m.serial.clk = true) (hcsn : m.csn = true)
    (hrem : m.serial.base.rem = m.par.width) (hcnt : m.serial.base.cnt ≤ m.serial.base.endCycle) : m.Phase :=
  ⟨fun _ => ⟨hclk, hcsn⟩, fun _ => hrem, fun _ => hcnt, by simp [hs], by simp [hs], by simp [hs]⟩

theorem Spi.Phase.of_transfer (hs : m.state = .transfer) (h : m.serial.Clocked)
    (hcsn : m.csn = decide (m.serial.base.rem = m.par.width)) : m.Phase :=
  ⟨by simp [hs], by simp [hs], fun _ => h.cnt, fun _ => h.clk, fun _ => hcsn, by simp [hs]⟩

theorem Spi.Phase.of_csnHi (hs : m.state = .csnHi) (h : m.serial.Clocked)
    (hcsn : m.csn = decide (m.serial.base.data < m.serial.base.cnt)) : m.Phase :=
  ⟨by simp [hs], by simp [hs], fun _ => h.cnt, fun _ => h.clk, by simp [hs], fun _ => hcsn⟩

theorem Spi.Phase.clocked_of_state (h : m.Phase) (hs : m.state = .transfer ∨ m.state = .csnHi) : m.serial.Clocked :=
  ⟨h.cnt (by obtain hs | hs := hs <;> simp [hs]), h.clocked hs⟩

/-- `FIRSTCLK` keeps the clock high until its end, where `TRANSFER` begins with the clock low and no bit sent. -/
theorem Spi.Phase.firstclkTick (h : m.Phase) (hr : m.InRange) (hs : m.state = .firstclk) : m.firstclkTick.Phase := by
  obtain ⟨hclk, hcsn⟩ := h.rest (.inr hs)
  have hrem : m.serial.base.rem = m.par.width := h.loaded hs
  obtain hmid | hend := (h.cnt (by simp [hs])).lt_or_eq
  · have hcnt : m.firstclkTick.serial.base.cnt = m.serial.base.cnt + 1 := hr.base.tickCounter_cnt hmid
    exact .of_firstclk (by simp [hs, hmid.ne]) (by simp [genClockEdges_eq, hclk, hmid.ne]) hcsn hrem (hcnt.trans_le hmid)
  · exact .of_transfer (by simp [hend]) (.of_first (by simp [hend]) (by simp [genClockEdges_eq, hend]))
      (by simp [hcsn, hrem])

/-- The first data event selects the chip: it takes `rem` below `width`, for good. -/
theorem Spi.transferTick_csn_of_select (hr : m.InRange) (hcsn : m.csn = decide (m.serial.base.rem = m.par.width)) :
    m.transferTick.csn = decide (m.transferTick.serial.base.rem = m.par.width) := by
  have hle : m.serial.base.rem ≤ m.par.width := hr.base.rem
  have hpos : 1 ≤ m.par.width := hr.par.1.2
  by_cases hdata : m.serial.base.cnt = m.serial.base.data
  · have hsent : m.serial.base.rem - 1 ≠ m.par.width := by omega
    simp [hdata, hsent]
  · simp [hdata, hcsn]

/-- `CSN_HI` is entered with the chip selected, because no bit is left to send and there was one. -/
theorem Spi.Phase.transferTick (h : m.Phase) (hr : m.InRange) (hs : m.state = .transfer) : m.transferTick.Phase := by
  by_cases hends : m.serial.transferEnds = true
  · obtain ⟨hend, hrem⟩ := m.serial.transferEnds_iff.1 hends
    have hpos : 1 ≤ m.par.width := hr.par.1.2
    have hcsn : m.csn = false := by
      rw [h.select hs, hrem]
      exact decide_eq_false (by omega)
    exact .of_csnHi (if_pos hends) (.of_first (by simp [hend]) (Serial.transferTick_clk_of_end hend))
      (by simp [hcsn, hend])
  · exact .of_transfer ((if_neg hends).trans hs) ((h.clocked_of_state (.inl hs)).transferTick hr.base)
      (Spi.transferTick_csn_of_select hr (h.select hs))

/-- A line that is raised at the event of `r`, and was high since that event, is high after it. -/
theorem Base.raiseAt_event (b : Base) (r : Nat) :
    (if b.event r then true else decide (r < b.cnt)) = decide (r < b.cnt + 1) := by
  by_cases hrise : b.cnt = r
  · simp [Base.event, hrise]
  · rw [if_neg (by simpa [Base.event] using hrise), decide_eq_decide]
    omega

/-- `CSN_HI` ends with the clock and chip select high, because `clk_high` and `data` come before the end of the cycle. -/
theorem Spi.Phase.csnHiTick (h : m.Phase) (hr : m.InRange) (hs : m.state = .csnHi) (ht : m.serial.ValidTiming) :
    m.csnHiTick.Phase := by
  have hclk : m.csnHiTick.serial.clk = decide (m.serial.base.clkHigh < m.serial.base.cnt + 1) := by
    rw [← Base.raiseAt_event, ← h.clocked (.inr hs)]
    rfl
  have hcsn : m.csnHiTick.csn = decide (m.serial.base.data < m.serial.base.cnt + 1) := by
    rw [← Base.raiseAt_event, ← h.deselect hs]
    rfl
  obtain hmid | hend := (h.cnt (by simp [hs])).lt_or_eq
  · have hcnt : m.csnHiTick.serial.base.cnt = m.serial.base.cnt + 1 := hr.base.tickCounter_cnt hmid
    rw [← hcnt] at hclk hcsn
    exact .of_csnHi (by simp [hs, hmid.ne]) ⟨hcnt.trans_le hmid, hclk⟩ hcsn
  · rw [hend] at hclk hcsn
    exact .of_wait (by simp [hend]) (hclk.trans (decide_eq_true (Nat.lt_succ_of_lt ht.clkHigh)))
      (hcsn.trans (decide_eq_true (Nat.lt_succ_of_lt ht.data)))

/-- The phase is not about the overlay and the host's side. -/
theorem Spi.Phase.withOverlay_withPort (h : m.Phase) (o : Overlay) (p : Port) :
    ({ m with overlay := o, port := p } : Spi).Phase := { h with }

theorem Spi.Phase.stateTick_of_busy (h : m.Phase) (hr : m.InRange) (hbusy : m.state ≠ .wait)
    (ht : m.serial.ValidTiming) : m.stateTick.Phase := by
  unfold Spi.stateTick
  split
  case h_1 hs => exact absurd hs hbusy
  case h_2 hs => exact h.transferTick hr hs
  case h_3 hs => exact h.firstclkTick hr hs
  case h_4 hs => exact h.csnHiTick hr hs ht

/-- `WAIT` holds its lines, and `FIRSTCLK` begins with them high and the shifter loaded, whatever timing is written in the
accepting tick. -/
theorem Spi.Phase.tickNext_of_wait (h : m.Phase) (hs : m.state = .wait) (hrst : m.port.inp.rst = false) :
    m.tickNext.Phase := by
  obtain ⟨hclk, hcsn⟩ := h.rest (.inl hs)
  obtain ⟨hstate, hclk', -, hcsn'⟩ := Spi.tickNext_lines hrst
  rw [Spi.stateTick_of_wait hs] at hstate hclk' hcsn'
  cases hready : m.port.inp.dataReady
  case false => exact .of_wait (by simp [hstate, hready, hs]) (hclk'.trans hclk) (hcsn'.trans hcsn)
  case true =>
    obtain ⟨hfirst, hcnt, hrem, -, -⟩ := Spi.tickNext_of_accept hs hready hrst
    exact .of_firstclk hfirst (hclk'.trans hclk) (hcsn'.trans hcsn) (by rw [hrem, Spi.tickNext_par])
      (hcnt.trans_le (Nat.zero_le _))

theorem Spi.Phase.tickNext (h : m.Phase) (hr : m.InRange)
    (ht : m.state ≠ .wait → m.serial.WellTimed ∧ m.port.inp.ConfigHeld .spi) : m.tickNext.Phase := by
  cases hrst : m.port.inp.rst
  case true =>
    obtain ⟨hstate, hclk, hcsn⟩ := Spi.tickNext_of_reset hrst
    exact .of_wait hstate hclk hcsn
  case false =>
    by_cases hs : m.state = .wait
    · exact h.tickNext_of_wait hs hrst
    · obtain ⟨hwell, hheld⟩ := ht hs
      obtain ⟨o, p, htick⟩ := Spi.tickNext_of_held hrst hheld
      rw [htick]
      exact (h.stateTick_of_busy hr hs hwell.valid).withOverlay_withPort o p

/-- The only rule that writes `sdo` is that of `TRANSFER`, at the data event. -/
theorem Spi.stateTick_sdo_change (hne : m.stateTick.serial.sdo ≠ m.serial.sdo) :
    m.serial.base.evData = true ∧ m.state = .transfer := by
  cases hs : m.state
  case wait =>
    rw [Spi.stateTick_of_wait hs] at hne
    exact absurd rfl hne
  case firstclk =>
    rw [Spi.stateTick_of_firstclk hs] at hne
    exact absurd rfl hne
  case transfer =>
    rw [Spi.stateTick_of_transfer hs] at hne
    obtain ⟨hdata, -⟩ := ite_ne_right_iff.1 hne
    exact ⟨hdata, rfl⟩
  case csnHi =>
    rw [Spi.stateTick_of_csnHi hs] at hne
    exact absurd rfl hne

/-- With `data` before `clk_high` the clock is low in the tick of a data event and in the next. -/
theorem Spi.Phase.clk_of_evData (h : m.Phase) (hs : m.state = .transfer ∨ m.state = .csnHi) (ht : m.serial.WellTimed)
    (hdata : m.serial.base.evData = true) : m.serial.clk = false ∧ m.stateTick.serial.clk = false := by
  rw [Base.evData_iff] at hdata
  have hbefore : m.serial.base.cnt < m.serial.base.clkHigh := hdata ▸ ht.dataLow
  have hmid : m.serial.base.cnt < m.serial.base.endCycle := hbefore.trans ht.valid.clkHigh
  have hlow : m.serial.clk = false := by
    rw [h.clocked hs]
    exact decide_eq_false hbefore.not_gt
  refine ⟨hlow, ?_⟩
  obtain hs | hs := hs
  · rw [Spi.stateTick_of_transfer hs]
    simp [genClockEdges_eq, hmid.ne, hbefore.ne, hlow]
  · rw [Spi.stateTick_of_csnHi hs]
    simp [hbefore.ne, hlow]

end Waveform

/-- Settles O50: each state rule keeps the phase, the reset and the accepting tick leave the lines high; and the data line and
chip select move at data events of `TRANSFER` and `CSN_HI` only, which come before `clk_high`. -/
theorem spiWaveform : Obligations.SpiWaveform := by
  intro s t hr hphase ht hstep
  obtain ⟨-, rfl⟩ := step_eq_next.1 hstep
  refine ⟨hphase.tickNext hr ht, fun hrst hne => ?_⟩
  obtain ⟨-, hclk, hsdo, hcsn⟩ : _ ∧ s.next.spi.serial.clk = _ ∧ s.next.spi.serial.sdo = _ ∧ s.next.spi.csn = _ :=
    Spi.tickNext_lines hrst
  rw [hsdo, hcsn] at hne
  rw [hclk]
  obtain ⟨hdata, hs⟩ : s.spi.serial.base.evData = true ∧ (s.spi.state = .transfer ∨ s.spi.state = .csnHi) := by
    obtain hne | hne := hne
    · obtain ⟨hdata, hs⟩ := Spi.stateTick_sdo_change hne
      exact ⟨hdata, .inl hs⟩
    · obtain ⟨hdata, hs⟩ := Spi.stateTick_csn_change hne
      exact ⟨hdata, hs.imp And.left And.left⟩
  exact hphase.clk_of_evData hs (ht (by obtain hs | hs := hs <;> simp [hs])).1 hdata

/-! ## The course of a valid transaction (45_spi_extension.md R220, R231)

Cycle 0 is `FIRSTCLK`, then each bit takes one cycle of `TRANSFER`, a `Serial.TransferRun` as in GEN and ATT, and one cycle of
`CSN_HI` ends the transaction. In the two states beside `TRANSFER` the base does nothing but count (`Spi.AtCount`). -/

/-- The states that last one cycle and neither load nor shift, each with the state after it. -/
inductive SpiState.HoldThen : SpiState → SpiState → Prop
  | firstclk : HoldThen .firstclk .transfer
  | csnHi : HoldThen .csnHi .wait

/-- SPI in state `st` with `i` in the counter, the parameters `q`, and the other common registers of `b`. -/
structure Spi.AtCount (st : SpiState) (q : Config.SpiParams) (b : Base) (i : Nat) (m : Spi) : Prop where
  state : m.state = st
  par : m.par = q
  base : m.serial.base = { b with cnt := i }

/-- SPI in `TRANSFER`, with its parameters. -/
structure Spi.InTransfer (q : Config.SpiParams) (m : Spi) : Prop where
  state : m.state = .transfer
  par : m.par = q

/-- The state in cycle `c` of a transaction of `width` bits. -/
def spiCycleState (width c : Nat) : SpiState :=
  if c = 0 then .firstclk else if c = width + 1 then .csnHi else .transfer

/-- The busy ticks of a valid transaction of the loaded shifter `b`: the first of them begins `FIRSTCLK`, and each is the state
rule, with no reset and no write to a timing register. -/
structure Spi.ValidRun (q : Config.SpiParams) (b : Base) (g : Nat → Spi) : Prop where
  first : (g 1).AtCount .firstclk q b 0
  cycle : b.ValidCycle q.cycleBits
  bits : 0 < b.rem
  tick : ∀ k, 1 ≤ k → k ≤ (b.endCycle + 1) * (b.rem + 2) →
    ∃ o p, g (k + 1) = { (g k).stateTick with overlay := o, port := p }

section Transaction

variable {st st' : SpiState} {q : Config.SpiParams} {b : Base} {i j c T : Nat} {m : Spi} {g : Nat → Spi}

theorem spiCycleState_ne_wait (width c : Nat) : spiCycleState width c ≠ .wait := by
  unfold spiCycleState
  split_ifs <;> decide

theorem Spi.AtCount.cnt (h : m.AtCount st q b i) : m.serial.base.cnt = i := by rw [h.base]

theorem Spi.AtCount.endCycle (h : m.AtCount st q b i) : m.serial.base.endCycle = b.endCycle := by rw [h.base]

/-- The position is not about the overlay and the host's side. -/
theorem Spi.AtCount.withOverlay_withPort (h : m.AtCount st q b i) (o : Overlay) (p : Port) :
    ({ m with overlay := o, port := p } : Spi).AtCount st q b i := { h with }

/-- In `FIRSTCLK` and `CSN_HI` the counter moves, and at `ev_end` the state. -/
theorem Spi.AtCount.stateTick (h : m.AtCount st q b i) (hst : st.HoldThen st') :
    m.stateTick.AtCount (if i = b.endCycle then st' else st) q b
      (if i = b.endCycle then 0 else (i + 1) % 2 ^ q.cycleBits) := by
  have hev : m.serial.base.evEnd = true ↔ i = b.endCycle := by rw [Base.evEnd_iff, h.cnt, h.endCycle]
  have hbase : m.serial.base.tickCounter m.par.cycleBits false =
      { b with cnt := if i = b.endCycle then 0 else (i + 1) % 2 ^ q.cycleBits } := by
    rw [Base.tickCounter_false, h.base, h.par]
  cases hst with
  | firstclk =>
    rw [Spi.stateTick_of_firstclk h.state]
    exact ⟨by rw [Spi.firstclkTick_state, h.state, if_congr hev rfl rfl], h.par, hbase⟩
  | csnHi =>
    rw [Spi.stateTick_of_csnHi h.state]
    exact ⟨by rw [Spi.csnHiTick_state, h.state, if_congr hev rfl rfl], h.par, hbase⟩

/-- Every tick of a cycle of `FIRSTCLK` or `CSN_HI`. -/
theorem Spi.ValidRun.atCount (h : ValidRun q b g) (hst : st.HoldThen st') {b' : Base} (hE : b'.endCycle = b.endCycle)
    (hfirst : (g T).AtCount st q b' 0) (h1 : 1 ≤ T) (hT : T + b.endCycle ≤ (b.endCycle + 1) * (b.rem + 2))
    (hi : i ≤ b.endCycle) : (g (T + i)).AtCount st q b' i := by
  induction i with
  | zero => exact hfirst
  | succ i ih =>
    obtain ⟨o, p, htick⟩ := h.tick (T + i) (by omega) (by omega)
    have hnext := (ih (by omega)).stateTick hst
    have hfits : b.endCycle < 2 ^ q.cycleBits := h.cycle.endCycle
    rw [hE, if_neg (by omega), if_neg (by omega), Nat.mod_eq_of_lt (by omega)] at hnext
    rw [← Nat.add_assoc, htick]
    exact hnext.withOverlay_withPort o p

/-- The tick after a cycle of `FIRSTCLK` or `CSN_HI`. -/
theorem Spi.ValidRun.atCount_next (h : ValidRun q b g) (hst : st.HoldThen st') {b' : Base}
    (hE : b'.endCycle = b.endCycle) (hfirst : (g T).AtCount st q b' 0) (h1 : 1 ≤ T)
    (hT : T + b.endCycle ≤ (b.endCycle + 1) * (b.rem + 2)) : (g (T + b.endCycle + 1)).AtCount st' q b' 0 := by
  obtain ⟨o, p, htick⟩ := h.tick (T + b.endCycle) (by omega) hT
  have hnext := (h.atCount hst hE hfirst h1 hT le_rfl).stateTick hst
  rw [if_pos hE.symm, if_pos hE.symm] at hnext
  rw [htick]
  exact hnext.withOverlay_withPort o p

/-- The busy ticks (45_spi_extension.md R231): a cycle of `FIRSTCLK`, one of `TRANSFER` for each bit, and one of `CSN_HI`. -/
theorem spiBusyTicks_eq (E W : Nat) : (E + 1) * (W + 2) = (E + 1) + (E + 1) * W + (E + 1) := by ring

/-- `TRANSFER` begins with the shifter as the request loaded it. -/
theorem Spi.ValidRun.atCount_transfer (h : ValidRun q b g) : (g (1 + b.endCycle + 1)).AtCount .transfer q b 0 := by
  refine h.atCount_next .firstclk rfl h.first le_rfl ?_
  rw [spiBusyTicks_eq]
  omega

/-- From the tick after `FIRSTCLK` on, SPI runs the base's rule until the exit test holds. -/
theorem Spi.ValidRun.transferRun (h : ValidRun q b g) :
    Serial.TransferRun q.toDims (fun k => (g (1 + b.endCycle + 1 + k)).InTransfer q)
      (fun k => (g (1 + b.endCycle + 1 + k)).serial) ((b.endCycle + 1) * b.rem) where
  first := ⟨h.atCount_transfer.state, h.atCount_transfer.par⟩
  tick k hk hin := by
    obtain ⟨o, p, htick⟩ := h.tick (1 + b.endCycle + 1 + k) (by omega) (by rw [spiBusyTicks_eq]; omega)
    rw [← Nat.add_assoc, htick, Spi.stateTick_of_transfer hin.state, ← hin.par]
    rfl
  stay k hk hin hends := by
    obtain ⟨o, p, htick⟩ := h.tick (1 + b.endCycle + 1 + k) (by omega) (by rw [spiBusyTicks_eq]; omega)
    rw [← Nat.add_assoc, htick, Spi.stateTick_of_transfer hin.state]
    exact ⟨(if_neg hends).trans hin.state, hin.par⟩

theorem Spi.ValidRun.atTick_first (h : ValidRun q b g) : (g (1 + b.endCycle + 1)).serial.AtTick b 0 0 :=
  h.atCount_transfer.base

/-- The tick that ends the cycle of the last bit leaves for `CSN_HI`. -/
theorem Spi.InTransfer.transferTick_of_last (h : m.InTransfer q) (hat : m.serial.AtTick b c b.endCycle)
    (hb : b.ValidCycle q.cycleBits) (hlast : b.rem ≤ c + 1) :
    m.transferTick.AtCount .csnHi q (Base.shift^[c + 1] b) 0 := by
  refine ⟨if_pos ((hat.transferEnds_iff hb).2 ⟨rfl, hlast⟩), h.par, ?_⟩
  rw [Spi.transferTick_serial, h.par]
  exact hat.next_of_end hb

/-- `CSN_HI` begins with every bit out and none too many. -/
theorem Spi.ValidRun.atCount_csnHi (h : ValidRun q b g) :
    (g (1 + b.endCycle + 1 + (b.endCycle + 1) * b.rem)).AtCount .csnHi q (Base.shift^[b.rem] b) 0 := by
  obtain ⟨w, hw⟩ : ∃ w, b.rem = w + 1 := Nat.exists_eq_succ_of_ne_zero h.bits.ne'
  obtain ⟨hin, hat⟩ :=
    h.transferRun.atTick h.atTick_first h.cycle rfl (c := w) (hw ▸ Nat.lt_succ_self w) le_rfl
  have hk : (b.endCycle + 1) * b.rem = (b.endCycle + 1) * w + b.endCycle + 1 := by
    rw [hw]
    exact Nat.mul_succ _ _
  obtain ⟨o, p, htick⟩ := h.tick (1 + b.endCycle + 1 + ((b.endCycle + 1) * w + b.endCycle)) (by omega)
    (by rw [spiBusyTicks_eq, hk]; omega)
  rw [hk, ← Nat.add_assoc, htick, Spi.stateTick_of_transfer hin.state, hw]
  exact (hin.transferTick_of_last hat h.cycle hw.le).withOverlay_withPort o p

/-- The state in every busy tick, by its cycle and its place in the cycle. -/
theorem Spi.ValidRun.state_of_cycle (h : ValidRun q b g) (hc : c ≤ b.rem + 1) (hi : i ≤ b.endCycle) :
    (g (1 + (b.endCycle + 1) * c + i)).state = spiCycleState b.rem c := by
  unfold spiCycleState
  split_ifs with hfirst hlast
  case pos =>
    rw [hfirst]
    exact (h.atCount .firstclk rfl h.first le_rfl (by rw [spiBusyTicks_eq]; omega) hi).state
  case pos =>
    have hk : 1 + (b.endCycle + 1) * c = 1 + b.endCycle + 1 + (b.endCycle + 1) * b.rem := by
      rw [hlast]
      ring
    rw [hk]
    exact (h.atCount .csnHi (b.shift_iterate_endCycle _) h.atCount_csnHi (by omega)
      (by rw [spiBusyTicks_eq]; omega) hi).state
  case neg =>
    obtain ⟨j, rfl⟩ : ∃ j, c = j + 1 := Nat.exists_eq_succ_of_ne_zero hfirst
    have hk : 1 + (b.endCycle + 1) * (j + 1) + i = 1 + b.endCycle + 1 + ((b.endCycle + 1) * j + i) := by ring
    rw [hk]
    obtain ⟨hin, -⟩ := h.transferRun.atTick h.atTick_first h.cycle rfl (c := j) (by omega) hi
    exact hin.state

/-- The same for the ticks counted from the request on. -/
theorem Spi.ValidRun.state_of_tick (h : ValidRun q b g) {k : Nat} (h1 : 1 ≤ k)
    (hk : k ≤ (b.endCycle + 1) * (b.rem + 2)) : (g k).state = spiCycleState b.rem ((k - 1) / (b.endCycle + 1)) := by
  have hsplit : 1 + (b.endCycle + 1) * ((k - 1) / (b.endCycle + 1)) + (k - 1) % (b.endCycle + 1) = k := by
    rw [Nat.add_assoc, Nat.div_add_mod]
    omega
  have hc : (k - 1) / (b.endCycle + 1) < b.rem + 2 := Nat.div_lt_of_lt_mul (by omega)
  have hi : (k - 1) % (b.endCycle + 1) < b.endCycle + 1 := Nat.mod_lt _ (Nat.succ_pos _)
  have hstate := h.state_of_cycle (Nat.le_of_lt_succ hc) (Nat.le_of_lt_succ hi)
  rwa [hsplit] at hstate

/-- Bit `j` of the payload is on the data line in the tick after the data event of cycle `j + 1`. -/
theorem Spi.ValidRun.sdo_of_payloadBit (h : ValidRun q b g) {payload : Nat} (hsr : b.sr = trunc b.rem payload)
    (hj : j < b.rem) : (g (2 + (j + 1) * (b.endCycle + 1) + b.data)).serial.sdo = payload.testBit j := by
  have hk : 2 + (j + 1) * (b.endCycle + 1) + b.data =
      1 + b.endCycle + 1 + ((b.endCycle + 1) * j + b.data + 1) := by ring
  rw [hk]
  exact h.transferRun.sdo_of_payloadBit h.atTick_first h.cycle rfl hsr hj

/-- The tick after the last. -/
theorem Spi.ValidRun.finish (h : ValidRun q b g) : (g ((b.endCycle + 1) * (b.rem + 2) + 1)).state = .wait ∧
    (g ((b.endCycle + 1) * (b.rem + 2) + 1)).serial.base.faultUnderflow = b.faultUnderflow := by
  have hk : (b.endCycle + 1) * (b.rem + 2) = 1 + b.endCycle + 1 + (b.endCycle + 1) * b.rem + b.endCycle := by ring
  have hwait := h.atCount_next .csnHi (b.shift_iterate_endCycle _) h.atCount_csnHi (by omega) hk.ge
  rw [← hk] at hwait
  refine ⟨hwait.state, ?_⟩
  rw [hwait.base]
  simp [Base.shift_iterate_faultUnderflow]

end Transaction

/-- A run of the machine, seen from SPI, under V2 and V3 of R305. -/
theorem Spi.tick_of_isRun {f : Nat → State} {B : Nat} (hruns : IsRun f (B + 1))
    (hrst : ∀ k ≤ B, (f k).spi.port.inp.NoReset)
    (hheld : ∀ k, 1 ≤ k → k ≤ B → (f k).spi.port.inp.ConfigHeld .spi) {k : Nat} (h1 : 1 ≤ k) (hk : k ≤ B) :
    ∃ o p, (f (k + 1)).spi = { (f k).spi.stateTick with overlay := o, port := p } := by
  obtain ⟨o, p, hheldTick⟩ := Spi.tickNext_of_held (hrst k hk) (hheld k h1 hk)
  exact ⟨o, p, (congrArg State.spi (hruns.next (Nat.lt_succ_of_le hk))).trans hheldTick⟩

/-- Settles O54: the tick after the request is the first of `FIRSTCLK`, and from there every tick has its place in its cycle. -/
theorem spiTransaction : Obligations.SpiTransaction := by
  intro f E W B hr hs hready hW hE hvalid hB hruns hrst hheld
  have haccept : (f 1).spi = (f 0).spi.tickNext := congrArg State.spi (hruns.next (Nat.succ_pos B))
  have hr1 : (f 1).spi.InRange := haccept ▸ hr.tickNext
  obtain ⟨hstart, hcnt, hrem, hsr, hfault⟩ := Spi.tickNext_of_accept hs hready (hrst 0 (Nat.zero_le _))
  rw [← haccept] at hstart hcnt hrem hsr hfault
  rw [← hrem] at hsr
  rw [← hW] at hrem
  have hB' : B = ((f 1).spi.serial.base.endCycle + 1) * ((f 1).spi.serial.base.rem + 2) := by rw [hB, hE, hrem]
  have hrun : Spi.ValidRun (f 1).spi.par (f 1).spi.serial.base (fun k => (f k).spi) :=
    { first := ⟨hstart, rfl, by rw [← hcnt]⟩
      cycle := ⟨hr1.base.endCycle, hvalid.data⟩
      bits := by
        rw [hrem, hW]
        exact hr.par.1.2
      tick := fun k h1 hk => Spi.tick_of_isRun hruns hrst hheld h1 (hB' ▸ hk) }
  have hstates (k : Nat) (h1 : 1 ≤ k) (hk : k ≤ B) : (f k).spi.state = spiCycleState W ((k - 1) / (E + 1)) := by
    rw [← hrem, hE]
    exact hrun.state_of_tick h1 (hB' ▸ hk)
  obtain ⟨hwait, hclean⟩ := hrun.finish
  rw [← hB'] at hwait hclean
  refine ⟨hstates, fun j hj => ?bits, fun k h1 hk => ?busy, ?idle, hclean.trans hfault⟩
  case bits =>
    rw [hE]
    exact hrun.sdo_of_payloadBit hsr (hrem.symm ▸ hj)
  case busy =>
    rw [Spi.busy, hstates k h1 hk]
    exact bne_iff_ne.2 (spiCycleState_ne_wait _ _)
  case idle => simp [Spi.busy, hwait]

end Sys2Proof.Machine
end

section
/-! PROOFS. The host's interface (46_host_interface.md): what a configuration access answers, how a tick with accesses is composed
of them, when a request is taken, and what the input line reaches. -/

namespace Sys2Proof.Machine

/-! ## The register rows (46_host_interface.md R245, R247)

A register row of a variant is the configuration access to the register of its index: `regValue` is what it reads, `store` what
it writes. -/

theorem exec_i2cRegister {n : Nat} {a : CfgAccess} {i : Instr} (h : decodeCfg .i2c n a = some i) (s : State) :
    exec i s = .next (s.withI2c (s.i2c.access a (s.i2c.regValue n) (s.i2c.store n))) := by
  have hn : n < 9 := (decodeCfg_isSome_iff .i2c n a).1 (Option.isSome_of_eq_some h)
  interval_cases n <;> obtain rfl := Option.some.inj h <;> rfl

theorem exec_genRegister {n : Nat} {a : CfgAccess} {i : Instr} (h : decodeCfg .gen n a = some i) (s : State) :
    exec i s = .next (s.withGen (s.gen.access a (s.gen.regValue n) (s.gen.store n))) := by
  have hn : n < 3 := (decodeCfg_isSome_iff .gen n a).1 (Option.isSome_of_eq_some h)
  interval_cases n <;> obtain rfl := Option.some.inj h <;> rfl

theorem exec_attRegister {n : Nat} {a : CfgAccess} {i : Instr} (h : decodeCfg .att n a = some i) (s : State) :
    exec i s = .next (s.withAtt (s.att.access a (s.att.regValue n) (s.att.store n))) := by
  have hn : n < 5 := (decodeCfg_isSome_iff .att n a).1 (Option.isSome_of_eq_some h)
  interval_cases n <;> obtain rfl := Option.some.inj h <;> rfl

theorem exec_spiRegister {n : Nat} {a : CfgAccess} {i : Instr} (h : decodeCfg .spi n a = some i) (s : State) :
    exec i s = .next (s.withSpi (s.spi.access a (s.spi.regValue n) (s.spi.store n))) := by
  have hn : n < 6 := (decodeCfg_isSome_iff .spi n a).1 (Option.isSome_of_eq_some h)
  interval_cases n <;> obtain rfl := Option.some.inj h <;> rfl

/-- A write in a tick without reset is the store into the register of its index. -/
theorem exec_i2cRegister_write {n v : Nat} {i : Instr} {s : State} (h : decodeCfg .i2c n (.write v) = some i)
    (hr : s.i2c.port.inp.rst = false) : exec i s = .next (s.withI2c (s.i2c.store n v)) := by
  simp [exec_i2cRegister h, I2c.access, hr]

theorem exec_genRegister_write {n v : Nat} {i : Instr} {s : State} (h : decodeCfg .gen n (.write v) = some i)
    (hr : s.gen.port.inp.rst = false) : exec i s = .next (s.withGen (s.gen.store n v)) := by
  simp [exec_genRegister h, Gen.access, hr]

theorem exec_attRegister_write {n v : Nat} {i : Instr} {s : State} (h : decodeCfg .att n (.write v) = some i)
    (hr : s.att.port.inp.rst = false) : exec i s = .next (s.withAtt (s.att.store n v)) := by
  simp [exec_attRegister h, Att.access, hr]

theorem exec_spiRegister_write {n v : Nat} {i : Instr} {s : State} (h : decodeCfg .spi n (.write v) = some i)
    (hr : s.spi.port.inp.rst = false) : exec i s = .next (s.withSpi (s.spi.store n v)) := by
  simp [exec_spiRegister h, Spi.access, hr]

/-- A write in a tick with reset is lost (70_reset_and_hazards.md R295). -/
theorem I2c.access_write_of_reset {m : I2c} {v value : Nat} {store : Nat → I2c} (hr : m.port.inp.rst = true) :
    m.access (.write v) value store = m :=
  if_pos hr

theorem Gen.access_write_of_reset {m : Gen} {v value : Nat} {store : Nat → Gen} (hr : m.port.inp.rst = true) :
    m.access (.write v) value store = m :=
  if_pos hr

theorem Att.access_write_of_reset {m : Att} {v value : Nat} {store : Nat → Att} (hr : m.port.inp.rst = true) :
    m.access (.write v) value store = m :=
  if_pos hr

theorem Spi.access_write_of_reset {m : Spi} {v value : Nat} {store : Nat → Spi} (hr : m.port.inp.rst = true) :
    m.access (.write v) value store = m :=
  if_pos hr

theorem exec_register_write_of_reset {v : Variant} {n x : Nat} {i : Instr} {s : State}
    (h : decodeCfg v n (.write x) = some i) (hr : (s.port v).inp.rst = true) : exec i s = .next s := by
  cases v with
  | i2c =>
    rw [exec_i2cRegister h, I2c.access_write_of_reset hr]
    rfl
  | gen =>
    rw [exec_genRegister h, Gen.access_write_of_reset hr]
    rfl
  | att =>
    rw [exec_attRegister h, Att.access_write_of_reset hr]
    rfl
  | spi =>
    rw [exec_spiRegister h, Spi.access_write_of_reset hr]
    rfl

/-- What a write stores in a one-bit register, in the form of the statements (30_encoding.md R102). -/
theorem bit0_eq (v : Nat) : bit0 v = decide (v % 2 = 1) := Nat.testBit_zero v

/-- Settles O15: each row reads the register of its index. -/
theorem i2cReadResults : Obligations.I2cReadResults := fun s =>
  ⟨exec_i2cRegister (n := 0) rfl s, exec_i2cRegister (n := 1) rfl s, exec_i2cRegister (n := 2) rfl s,
    exec_i2cRegister (n := 3) rfl s, exec_i2cRegister (n := 4) rfl s, exec_i2cRegister (n := 5) rfl s,
    exec_i2cRegister (n := 6) rfl s, exec_i2cRegister (n := 7) rfl s, exec_i2cRegister (n := 8) rfl s⟩

/-- Settles O16: each row reads the register of its index in its own variant. -/
theorem serialReadResults : Obligations.SerialReadResults := fun s =>
  ⟨exec_genRegister (n := 0) rfl s, exec_genRegister (n := 1) rfl s, exec_genRegister (n := 2) rfl s,
    exec_attRegister (n := 0) rfl s, exec_attRegister (n := 1) rfl s, exec_attRegister (n := 2) rfl s,
    exec_attRegister (n := 3) rfl s, exec_attRegister (n := 4) rfl s,
    exec_spiRegister (n := 0) rfl s, exec_spiRegister (n := 1) rfl s, exec_spiRegister (n := 2) rfl s,
    exec_spiRegister (n := 3) rfl s, exec_spiRegister (n := 4) rfl s, exec_spiRegister (n := 5) rfl s⟩

/-- Settles O17: each row stores into the register of its index; nothing is stored at the index of the read-back. -/
theorem i2cWriteResults : Obligations.I2cWriteResults := by
  intro s v hr
  rw [← bit0_eq]
  exact ⟨exec_i2cRegister_write (n := 0) rfl hr, exec_i2cRegister_write (n := 1) rfl hr,
    exec_i2cRegister_write (n := 2) rfl hr, exec_i2cRegister_write (n := 3) rfl hr,
    exec_i2cRegister_write (n := 4) rfl hr, exec_i2cRegister_write (n := 5) rfl hr,
    exec_i2cRegister_write (n := 6) rfl hr, exec_i2cRegister_write (n := 7) rfl hr,
    exec_i2cRegister_write (n := 8) rfl hr⟩

/-- Settles O18: each row stores into the register of its index; nothing is stored at the index of the read-back. -/
theorem serialWriteResults : Obligations.SerialWriteResults := by
  intro s v
  rw [← bit0_eq]
  refine ⟨fun hr => ?gen, fun hr => ?att, fun hr => ?spi⟩
  case gen =>
    exact ⟨exec_genRegister_write (n := 0) rfl hr, exec_genRegister_write (n := 1) rfl hr,
      exec_genRegister_write (n := 2) rfl hr⟩
  case att =>
    exact ⟨exec_attRegister_write (n := 0) rfl hr, exec_attRegister_write (n := 1) rfl hr,
      exec_attRegister_write (n := 2) rfl hr, exec_attRegister_write (n := 3) rfl hr,
      exec_attRegister_write (n := 4) rfl hr⟩
  case spi =>
    exact ⟨exec_spiRegister_write (n := 0) rfl hr, exec_spiRegister_write (n := 1) rfl hr,
      exec_spiRegister_write (n := 2) rfl hr, exec_spiRegister_write (n := 3) rfl hr,
      exec_spiRegister_write (n := 4) rfl hr, exec_spiRegister_write (n := 5) rfl hr⟩

/-- Settles O19: an instruction with an access is a register row, whose write a reset discards. -/
theorem writeLostInReset : Obligations.WriteLostInReset := by
  intro i s v hwrite hr
  obtain ⟨_, _, -, hnone, -⟩ | ⟨w, n, a, hrow, haccess, hdec⟩ := i.decode_row_cases
  · simp [hnone] at hwrite
  · obtain rfl : a = .write v := Option.some.inj (haccess.symm.trans hwrite)
    rw [hrow] at hr
    exact exec_register_write_of_reset hdec hr

/-! ## A tick with accesses (46_host_interface.md R255) -/

/-- Whenever the read part answers, it answers `readNext`. -/
theorem eq_readNext_of_readPart {v : Variant} {s t : State} (h : readPart v s = .next t) : t = s.readNext v := by
  have hnamed (r : RegIndex) (hrd : (s.port v).inp.cfgRd = some r) : (decodeCfg v r.toNat .read).isSome := by
    by_contra hnone
    rw [Option.not_isSome_iff_eq_none] at hnone
    simp [readPart, hrd, hnone, runAccess] at h
  rw [readPart_of_named v s hnamed, Host.Outcome.next.injEq] at h
  exact h.symm

/-- The read part leaves the inputs of the tick, and the state register, to the later parts. -/
theorem inp_of_readPart {v : Variant} {s t : State} (h : readPart v s = .next t) : (t.port v).inp = (s.port v).inp := by
  rw [eq_readNext_of_readPart h]
  cases v <;> rfl

theorem stateCode_of_readPart {v : Variant} {s t : State} (h : readPart v s = .next t) :
    t.stateCode v = s.stateCode v := by
  rw [eq_readNext_of_readPart h]
  cases v <;> rfl

/-- The write part of a tick runs the register row that the write names. -/
theorem writePart_of_write {v : Variant} {s : State} {w : CfgWrite} {k : Instr} (hwr : (s.port v).inp.cfgWr = some w)
    (hk : decodeCfg v w.index.toNat (.write w.value) = some k) : writePart v s = exec k s := by
  simp [writePart, hwr, hk, runAccess]

/-- Settles O28: each access is its part of the tick, the state row is the state part, and the step takes each encoder from its
own tick. -/
theorem stepRunsAccesses : Obligations.StepRunsAccesses := by
  intro v s s1 s2 s3 i hrst hfetch hread hexec hwrite
  have hreadPart : readPart v s = .next s1 := by
    cases hrd : (s.port v).inp.cfgRd with
    | none =>
      rw [hrd] at hread
      rw [readPart_of_noRead hrd, hread]
    | some r =>
      rw [hrd] at hread
      obtain ⟨j, hj, hexecRead⟩ := hread
      exact (readPart_of_read hrd hj).trans hexecRead
  have hinp1 : (s1.port v).inp = (s.port v).inp := inp_of_readPart hreadPart
  have hstatePart : statePart v s1 = .next s2 := by
    rw [← stateCode_of_readPart hreadPart] at hfetch
    rw [statePart_of_fetched (hinp1 ▸ hrst) hfetch, hexec]
  have hinp2 : (s2.port v).inp = (s.port v).inp := (inp_of_statePart hstatePart).trans hinp1
  have hwritePart : writePart v s2 = .next s3 := by
    cases hwr : (s.port v).inp.cfgWr with
    | none =>
      rw [hwr] at hwrite
      rw [writePart_of_noWrite (hinp2 ▸ hwr), hwrite]
    | some w =>
      rw [hwr] at hwrite
      obtain ⟨k, hk, hexecWrite⟩ := hwrite
      exact (writePart_of_write (hinp2 ▸ hwr) hk).trans hexecWrite
  have htick : tickInstance v s = .next (endPart v s3) := tickInstance_of_parts hreadPart hstatePart hwritePart
  refine ⟨htick, fun u hstep => ?_⟩
  obtain ⟨hnamed, rfl⟩ := step_eq_next.1 hstep
  have hnext : s.tickNext v = endPart v s3 := tickNext_eq_of_tickInstance hnamed htick
  cases v with
  | i2c => rw [State.next_i2c, hnext]
  | gen => rw [State.next_gen, hnext]
  | att => rw [State.next_att, hnext]
  | spi => rw [State.next_spi, hnext]

/-! ## A request (46_host_interface.md R249, R250)

`WAIT` is the idle state; a tick that accepts a request is described by `tickNext_of_accept` of each encoder. -/

theorem State.accepted_iff {s : State} {v : Variant} : s.accepted v = true ↔
    s.idle v = true ∧ (s.port v).inp.dataReady = true ∧ (s.port v).inp.rst = false := by
  simp only [State.accepted, Bool.and_eq_true, Bool.not_eq_true']
  tauto

theorem State.idle_i2c_iff {s : State} : s.idle .i2c = true ↔ s.i2c.state = .wait := by
  simp [State.idle, State.busy, I2c.busy]

theorem State.idle_gen_iff {s : State} : s.idle .gen = true ↔ s.gen.state = .wait := by
  simp [State.idle, State.busy, Gen.busy]

theorem State.idle_att_iff {s : State} : s.idle .att = true ↔ s.att.state = .wait := by
  simp [State.idle, State.busy, Att.busy]

theorem State.idle_spi_iff {s : State} : s.idle .spi = true ↔ s.spi.state = .wait := by
  simp [State.idle, State.busy, Spi.busy]

/-- The state register after a tick: the state rule's, or `WAIT` after a reset. -/
theorem I2c.tickNext_state (m : I2c) :
    m.tickNext.state = if m.port.inp.rst = true then .wait else m.stateTick.state := by
  split
  case isTrue hr =>
    rw [I2c.tickNext_eq_withConfigOf, I2c.tickNext_withoutWrite, I2c.stateNext, Port.readNext_inp, if_pos hr]
    rfl
  case isFalse hr => exact (I2c.tickNext_lines (by simpa using hr)).1

theorem Gen.tickNext_state (m : Gen) :
    m.tickNext.state = if m.port.inp.rst = true then .wait else m.stateTick.state := by
  split
  case isTrue hr =>
    rw [Gen.tickNext_eq_withConfigOf, Gen.tickNext_withoutWrite, Gen.stateNext, Port.readNext_inp, if_pos hr]
    rfl
  case isFalse hr => exact (Gen.tickNext_lines (by simpa using hr)).1

theorem Att.tickNext_state (m : Att) :
    m.tickNext.state = if m.port.inp.rst = true then .wait else m.stateTick.state := by
  split
  case isTrue hr =>
    rw [Att.tickNext_eq_withConfigOf, Att.tickNext_withoutWrite, Att.stateNext, Port.readNext_inp, if_pos hr]
    rfl
  case isFalse hr => exact (Att.tickNext_lines (by simpa using hr)).1

theorem Spi.tickNext_state (m : Spi) :
    m.tickNext.state = if m.port.inp.rst = true then .wait else m.stateTick.state := by
  split
  case isTrue hr =>
    rw [Spi.tickNext_eq_withConfigOf, Spi.tickNext_withoutWrite, Spi.stateNext, Port.readNext_inp, if_pos hr]
    rfl
  case isFalse hr => exact (Spi.tickNext_lines (by simpa using hr)).1

/-- Without a request an idle encoder stays idle, in a reset tick too. -/
theorem I2c.tickNext_state_of_noRequest {m : I2c} (hs : m.state = .wait) (hready : m.port.inp.dataReady = false) :
    m.tickNext.state = .wait := by
  rw [I2c.tickNext_state, I2c.stateTick_of_wait hs, I2c.waitTick_state, hready, if_neg Bool.false_ne_true, hs, ite_self]

theorem Gen.tickNext_state_of_noRequest {m : Gen} (hs : m.state = .wait) (hready : m.port.inp.dataReady = false) :
    m.tickNext.state = .wait := by
  rw [Gen.tickNext_state, Gen.stateTick_of_wait hs, Gen.waitTick_state, hready, if_neg Bool.false_ne_true, hs, ite_self]

theorem Att.tickNext_state_of_noRequest {m : Att} (hs : m.state = .wait) (hready : m.port.inp.dataReady = false) :
    m.tickNext.state = .wait := by
  rw [Att.tickNext_state, Att.stateTick_of_wait hs, Att.waitTick_state, hready, if_neg Bool.false_ne_true, hs, ite_self]

theorem Spi.tickNext_state_of_noRequest {m : Spi} (hs : m.state = .wait) (hready : m.port.inp.dataReady = false) :
    m.tickNext.state = .wait := by
  rw [Spi.tickNext_state, Spi.stateTick_of_wait hs, Spi.waitTick_state, hready, if_neg Bool.false_ne_true, hs, ite_self]

/-- Settles O58: the tick of an idle encoder loads the payload and leaves `WAIT` on a request, and stays there without one. -/
theorem requestAccepted : Obligations.RequestAccepted := by
  intro s t hstep
  obtain ⟨-, rfl⟩ := step_eq_next.1 hstep
  refine ⟨fun h => ?i2cTaken, fun hidle hready => ?i2cIdle, fun h => ?genTaken, fun hidle hready => ?genIdle,
    fun h => ?attTaken, fun hidle hready => ?attIdle, fun h => ?spiTaken, fun hidle hready => ?spiIdle⟩
  case i2cTaken =>
    obtain ⟨hidle, hready, hrst⟩ := State.accepted_iff.1 h
    obtain ⟨hstate, hcnt, hrem, hsr, -⟩ := I2c.tickNext_of_accept (State.idle_i2c_iff.1 hidle) hready hrst
    exact ⟨by rw [State.busy, State.next, I2c.busy, hstate]; rfl, hcnt, hsr, hrem⟩
  case i2cIdle => exact State.idle_i2c_iff.2 (I2c.tickNext_state_of_noRequest (State.idle_i2c_iff.1 hidle) hready)
  case genTaken =>
    obtain ⟨hidle, hready, hrst⟩ := State.accepted_iff.1 h
    obtain ⟨hstate, hcnt, hrem, hsr, -⟩ := Gen.tickNext_of_accept (State.idle_gen_iff.1 hidle) hready hrst
    exact ⟨by rw [State.busy, State.next, Gen.busy, hstate]; rfl, hcnt, hsr, hrem⟩
  case genIdle => exact State.idle_gen_iff.2 (Gen.tickNext_state_of_noRequest (State.idle_gen_iff.1 hidle) hready)
  case attTaken =>
    obtain ⟨hidle, hready, hrst⟩ := State.accepted_iff.1 h
    obtain ⟨hstate, hcnt, hrem, hsr, -⟩ := Att.tickNext_of_accept (State.idle_att_iff.1 hidle) hready hrst
    exact ⟨by rw [State.busy, State.next, Att.busy, hstate]; rfl, hcnt, hsr, hrem⟩
  case attIdle => exact State.idle_att_iff.2 (Att.tickNext_state_of_noRequest (State.idle_att_iff.1 hidle) hready)
  case spiTaken =>
    obtain ⟨hidle, hready, hrst⟩ := State.accepted_iff.1 h
    obtain ⟨hstate, hcnt, hrem, hsr, -⟩ := Spi.tickNext_of_accept (State.idle_spi_iff.1 hidle) hready hrst
    exact ⟨by rw [State.busy, State.next, Spi.busy, hstate]; rfl, hcnt, hsr, hrem⟩
  case spiIdle => exact State.idle_spi_iff.2 (Spi.tickNext_state_of_noRequest (State.idle_spi_iff.1 hidle) hready)

/-! ## The synchronizer (46_host_interface.md R252)

The end of the tick takes the input line into the first stage and the first stage into the second; no other part of a tick
writes a stage, and none reads the line. -/

/-- The encoder after the read part of its tick. -/
def I2c.readNext (m : I2c) : I2c := { m with port := m.port.readNext m.regValue }

def Gen.readNext (m : Gen) : Gen := { m with port := m.port.readNext m.regValue }

def Att.readNext (m : Att) : Att := { m with port := m.port.readNext m.regValue }

def Spi.readNext (m : Spi) : Spi := { m with port := m.port.readNext m.regValue }

theorem I2c.tickNext_eq_parts (m : I2c) : m.tickNext = m.readNext.stateNext.writeNext.endNext := rfl

theorem Gen.tickNext_eq_parts (m : Gen) : m.tickNext = m.readNext.stateNext.writeNext.endNext := rfl

theorem Att.tickNext_eq_parts (m : Att) : m.tickNext = m.readNext.stateNext.writeNext.endNext := rfl

theorem Spi.tickNext_eq_parts (m : Spi) : m.tickNext = m.readNext.stateNext.writeNext.endNext := rfl

theorem I2c.tickNext_sync1 (m : I2c) : m.tickNext.overlay.sync1 = m.port.inp.pin := by
  simp [I2c.tickNext, I2c.endNext]

theorem Spi.tickNext_sync1 (m : Spi) : m.tickNext.overlay.sync1 = m.port.inp.pin := by
  simp [Spi.tickNext, Spi.endNext]

theorem I2c.stateNext_sync1 (m : I2c) : m.stateNext.overlay.sync1 = m.overlay.sync1 := by
  unfold I2c.stateNext I2c.stateTick
  split
  · rfl
  · split <;> rfl

theorem Spi.stateNext_sync1 (m : Spi) : m.stateNext.overlay.sync1 = m.overlay.sync1 := by
  unfold Spi.stateNext Spi.stateTick
  split
  · rfl
  · split <;> rfl

theorem I2c.tickNext_sync2 (m : I2c) : m.tickNext.overlay.sync2 = m.overlay.sync1 := by
  rw [I2c.tickNext_eq_withConfigOf, I2c.tickNext_withoutWrite]
  exact m.readNext.stateNext_sync1

theorem Spi.tickNext_sync2 (m : Spi) : m.tickNext.overlay.sync2 = m.overlay.sync1 := by
  rw [Spi.tickNext_eq_withConfigOf, Spi.tickNext_withoutWrite]
  exact m.readNext.stateNext_sync1

/-- Settles O38: the line of a tick is in the first stage after it, and in the second after the next. -/
theorem synchronizerLatency : Obligations.SynchronizerLatency := by
  intro s t u hstep hstep'
  obtain ⟨-, rfl⟩ := step_eq_next.1 hstep
  obtain ⟨-, rfl⟩ := step_eq_next.1 hstep'
  exact ⟨(I2c.tickNext_sync2 _).trans (I2c.tickNext_sync1 _), (Spi.tickNext_sync2 _).trans (Spi.tickNext_sync1 _)⟩

/-! ## What a tick reads of its inputs (46_host_interface.md R249, R253)

Two inputs with the same reset and the same accesses, and for an idle encoder with the same request, differ after the tick only
in the line that the first synchronizer stage takes. -/

/-- `a` and `b` have the same reset and accesses and, if the encoder is idle, the same request. The input line is left free. -/
structure TickInput.SameBut (busy : Bool) (a b : TickInput) : Prop where
  rst : a.rst = b.rst
  cfgWr : a.cfgWr = b.cfgWr
  cfgRd : a.cfgRd = b.cfgRd
  request : busy = false → a.dataReady = b.dataReady ∧ a.payload = b.payload

/-- `m` with the inputs `inp`. -/
def I2c.withInp (m : I2c) (inp : TickInput) : I2c := { m with port := { m.port with inp := inp } }

/-- `m` with the inputs `inp`. -/
def Gen.withInp (m : Gen) (inp : TickInput) : Gen := { m with port := { m.port with inp := inp } }

/-- `m` with the inputs `inp`. -/
def Att.withInp (m : Att) (inp : TickInput) : Att := { m with port := { m.port with inp := inp } }

/-- `m` with the inputs `inp`. -/
def Spi.withInp (m : Spi) (inp : TickInput) : Spi := { m with port := { m.port with inp := inp } }

section I2cInputs

variable {m : I2c} {inp : TickInput}

theorem I2c.readNext_withInp (hrd : inp.cfgRd = m.port.inp.cfgRd) : (m.withInp inp).readNext = m.readNext.withInp inp := by
  simp only [I2c.readNext, I2c.withInp, Port.readNext, hrd]
  rfl

/-- Only `WAIT` reads the request. -/
theorem I2c.stateTick_withInp (h : inp.SameBut m.busy m.port.inp) :
    (m.withInp inp).stateTick = m.stateTick.withInp inp := by
  cases m with
  | mk par state => cases state with
    | wait =>
      obtain ⟨hready, hpayload⟩ := h.request rfl
      simp [I2c.stateTick, I2c.withInp, I2c.waitTick, hready, hpayload]
    | _ => rfl

theorem I2c.stateNext_withInp (h : inp.SameBut m.busy m.port.inp) :
    (m.withInp inp).stateNext = m.stateNext.withInp inp := by
  have hrst : (m.withInp inp).port.inp.rst = m.port.inp.rst := h.rst
  unfold I2c.stateNext
  rw [hrst, I2c.stateTick_withInp h]
  split <;> rfl

theorem I2c.store_withInp (n v : Nat) : (m.withInp inp).store n v = (m.store n v).withInp inp := by
  unfold I2c.store
  split <;> rfl

theorem I2c.writeNext_withInp (hrst : inp.rst = m.port.inp.rst) (hwr : inp.cfgWr = m.port.inp.cfgWr) :
    (m.withInp inp).writeNext = m.writeNext.withInp inp := by
  have hrst' : (m.withInp inp).port.inp.rst = m.port.inp.rst := hrst
  have hwr' : (m.withInp inp).port.inp.cfgWr = m.port.inp.cfgWr := hwr
  unfold I2c.writeNext
  rw [hrst', hwr']
  split
  · rfl
  · split
    · rfl
    · exact I2c.store_withInp _ _

/-- A whole tick with other inputs: only the first synchronizer stage can be another. -/
theorem I2c.tickNext_withInp (h : inp.SameBut m.busy m.port.inp) :
    (m.withInp inp).tickNext = { m.tickNext with overlay := { m.tickNext.overlay with sync1 := inp.pin } } := by
  have hread : inp.SameBut m.readNext.busy m.readNext.port.inp := h
  rw [I2c.tickNext_eq_parts, I2c.readNext_withInp h.cfgRd, I2c.stateNext_withInp hread,
    I2c.writeNext_withInp (by simpa using hread.rst) (by simpa using hread.cfgWr)]
  rfl

theorem I2c.tickNext_withInp_of_pin (h : inp.SameBut m.busy m.port.inp) (hpin : inp.pin = m.port.inp.pin) :
    (m.withInp inp).tickNext = m.tickNext := by
  rw [I2c.tickNext_withInp h, hpin, ← I2c.tickNext_sync1]

end I2cInputs

section GenInputs

variable {m : Gen} {inp : TickInput}

theorem Gen.readNext_withInp (hrd : inp.cfgRd = m.port.inp.cfgRd) : (m.withInp inp).readNext = m.readNext.withInp inp := by
  simp only [Gen.readNext, Gen.withInp, Port.readNext, hrd]
  rfl

/-- Only `WAIT` reads the request. -/
theorem Gen.stateTick_withInp (h : inp.SameBut m.busy m.port.inp) :
    (m.withInp inp).stateTick = m.stateTick.withInp inp := by
  cases m with
  | mk par state => cases state with
    | wait =>
      obtain ⟨hready, hpayload⟩ := h.request rfl
      simp [Gen.stateTick, Gen.withInp, Gen.waitTick, hready, hpayload]
    | _ => rfl

theorem Gen.stateNext_withInp (h : inp.SameBut m.busy m.port.inp) :
    (m.withInp inp).stateNext = m.stateNext.withInp inp := by
  have hrst : (m.withInp inp).port.inp.rst = m.port.inp.rst := h.rst
  unfold Gen.stateNext
  rw [hrst, Gen.stateTick_withInp h]
  split <;> rfl

theorem Gen.store_withInp (n v : Nat) : (m.withInp inp).store n v = (m.store n v).withInp inp := by
  unfold Gen.store
  split <;> rfl

theorem Gen.writeNext_withInp (hrst : inp.rst = m.port.inp.rst) (hwr : inp.cfgWr = m.port.inp.cfgWr) :
    (m.withInp inp).writeNext = m.writeNext.withInp inp := by
  have hrst' : (m.withInp inp).port.inp.rst = m.port.inp.rst := hrst
  have hwr' : (m.withInp inp).port.inp.cfgWr = m.port.inp.cfgWr := hwr
  unfold Gen.writeNext
  rw [hrst', hwr']
  split
  · rfl
  · split
    · rfl
    · exact Gen.store_withInp _ _

/-- A whole tick with other inputs is the same tick. -/
theorem Gen.tickNext_withInp (h : inp.SameBut m.busy m.port.inp) : (m.withInp inp).tickNext = m.tickNext := by
  have hread : inp.SameBut m.readNext.busy m.readNext.port.inp := h
  rw [Gen.tickNext_eq_parts, Gen.readNext_withInp h.cfgRd, Gen.stateNext_withInp hread,
    Gen.writeNext_withInp (by simpa using hread.rst) (by simpa using hread.cfgWr)]
  rfl

end GenInputs

section AttInputs

variable {m : Att} {inp : TickInput}

theorem Att.readNext_withInp (hrd : inp.cfgRd = m.port.inp.cfgRd) : (m.withInp inp).readNext = m.readNext.withInp inp := by
  simp only [Att.readNext, Att.withInp, Port.readNext, hrd]
  rfl

/-- Only `WAIT` reads the request. -/
theorem Att.stateTick_withInp (h : inp.SameBut m.busy m.port.inp) :
    (m.withInp inp).stateTick = m.stateTick.withInp inp := by
  cases m with
  | mk par state => cases state with
    | wait =>
      obtain ⟨hready, hpayload⟩ := h.request rfl
      simp [Att.stateTick, Att.withInp, Att.waitTick, hready, hpayload]
    | _ => rfl

theorem Att.stateNext_withInp (h : inp.SameBut m.busy m.port.inp) :
    (m.withInp inp).stateNext = m.stateNext.withInp inp := by
  have hrst : (m.withInp inp).port.inp.rst = m.port.inp.rst := h.rst
  unfold Att.stateNext
  rw [hrst, Att.stateTick_withInp h]
  split <;> rfl

theorem Att.store_withInp (n v : Nat) : (m.withInp inp).store n v = (m.store n v).withInp inp := by
  unfold Att.store
  split <;> rfl

theorem Att.writeNext_withInp (hrst : inp.rst = m.port.inp.rst) (hwr : inp.cfgWr = m.port.inp.cfgWr) :
    (m.withInp inp).writeNext = m.writeNext.withInp inp := by
  have hrst' : (m.withInp inp).port.inp.rst = m.port.inp.rst := hrst
  have hwr' : (m.withInp inp).port.inp.cfgWr = m.port.inp.cfgWr := hwr
  unfold Att.writeNext
  rw [hrst', hwr']
  split
  · rfl
  · split
    · rfl
    · exact Att.store_withInp _ _

/-- A whole tick with other inputs is the same tick. -/
theorem Att.tickNext_withInp (h : inp.SameBut m.busy m.port.inp) : (m.withInp inp).tickNext = m.tickNext := by
  have hread : inp.SameBut m.readNext.busy m.readNext.port.inp := h
  rw [Att.tickNext_eq_parts, Att.readNext_withInp h.cfgRd, Att.stateNext_withInp hread,
    Att.writeNext_withInp (by simpa using hread.rst) (by simpa using hread.cfgWr)]
  rfl

end AttInputs

section SpiInputs

variable {m : Spi} {inp : TickInput}

theorem Spi.readNext_withInp (hrd : inp.cfgRd = m.port.inp.cfgRd) : (m.withInp inp).readNext = m.readNext.withInp inp := by
  simp only [Spi.readNext, Spi.withInp, Port.readNext, hrd]
  rfl

/-- Only `WAIT` reads the request. -/
theorem Spi.stateTick_withInp (h : inp.SameBut m.busy m.port.inp) :
    (m.withInp inp).stateTick = m.stateTick.withInp inp := by
  cases m with
  | mk par state => cases state with
    | wait =>
      obtain ⟨hready, hpayload⟩ := h.request rfl
      simp [Spi.stateTick, Spi.withInp, Spi.waitTick, hready, hpayload]
    | _ => rfl

theorem Spi.stateNext_withInp (h : inp.SameBut m.busy m.port.inp) :
    (m.withInp inp).stateNext = m.stateNext.withInp inp := by
  have hrst : (m.withInp inp).port.inp.rst = m.port.inp.rst := h.rst
  unfold Spi.stateNext
  rw [hrst, Spi.stateTick_withInp h]
  split <;> rfl

theorem Spi.store_withInp (n v : Nat) : (m.withInp inp).store n v = (m.store n v).withInp inp := by
  unfold Spi.store
  split <;> rfl

theorem Spi.writeNext_withInp (hrst : inp.rst = m.port.inp.rst) (hwr : inp.cfgWr = m.port.inp.cfgWr) :
    (m.withInp inp).writeNext = m.writeNext.withInp inp := by
  have hrst' : (m.withInp inp).port.inp.rst = m.port.inp.rst := hrst
  have hwr' : (m.withInp inp).port.inp.cfgWr = m.port.inp.cfgWr := hwr
  unfold Spi.writeNext
  rw [hrst', hwr']
  split
  · rfl
  · split
    · rfl
    · exact Spi.store_withInp _ _

/-- A whole tick with other inputs: only the first synchronizer stage can be another. -/
theorem Spi.tickNext_withInp (h : inp.SameBut m.busy m.port.inp) :
    (m.withInp inp).tickNext = { m.tickNext with overlay := { m.tickNext.overlay with sync1 := inp.pin } } := by
  have hread : inp.SameBut m.readNext.busy m.readNext.port.inp := h
  rw [Spi.tickNext_eq_parts, Spi.readNext_withInp h.cfgRd, Spi.stateNext_withInp hread,
    Spi.writeNext_withInp (by simpa using hread.rst) (by simpa using hread.cfgWr)]
  rfl

theorem Spi.tickNext_withInp_of_pin (h : inp.SameBut m.busy m.port.inp) (hpin : inp.pin = m.port.inp.pin) :
    (m.withInp inp).tickNext = m.tickNext := by
  rw [Spi.tickNext_withInp h, hpin, ← Spi.tickNext_sync1]

end SpiInputs

/-! ## A request to a busy encoder (46_host_interface.md R249) -/

@[simp] theorem State.port_withPort_self (s : State) (v : Variant) (p : Port) : (s.withPort v p).port v = p := by
  cases v <;> rfl

theorem State.port_withPort_of_ne {v w : Variant} (h : w ≠ v) (s : State) (p : Port) :
    (s.withPort v p).port w = s.port w := by
  cases v with
  | i2c => cases w with
    | i2c => exact absurd rfl h
    | _ => rfl
  | gen => cases w with
    | gen => exact absurd rfl h
    | _ => rfl
  | att => cases w with
    | att => exact absurd rfl h
    | _ => rfl
  | spi => cases w with
    | spi => exact absurd rfl h
    | _ => rfl

/-- Whether a step is refused depends on the accesses of the inputs only. -/
theorem accessesNamed_withPort_iff {s : State} {v : Variant} {p : Port} (hrd : p.inp.cfgRd = (s.port v).inp.cfgRd)
    (hwr : p.inp.cfgWr = (s.port v).inp.cfgWr) : (s.withPort v p).AccessesNamed ↔ s.AccessesNamed := by
  refine forall_congr' fun w => ?_
  obtain rfl | hne := eq_or_ne w v
  · rw [State.port_withPort_self, TickInput.NamesRegisters, hrd, hwr]
  · rw [State.port_withPort_of_ne hne]

theorem step_congr {s s' : State} (hnamed : s'.AccessesNamed ↔ s.AccessesNamed) (hnext : s'.next = s.next) :
    step s' = step s := by
  by_cases h : s.AccessesNamed
  · rw [step_of_named s h, step_of_named s' (hnamed.2 h), hnext]
  · rw [step_of_not_named s h, step_of_not_named s' (mt hnamed.1 h)]

/-- A busy encoder sees the same inputs with another request. -/
theorem TickInput.sameBut_of_busy {busy : Bool} {inp : TickInput} (h : busy = true) (ready : Bool) (payload : Nat) :
    ({ inp with dataReady := ready, payload := payload } : TickInput).SameBut busy inp :=
  ⟨rfl, rfl, rfl, fun hidle => absurd h (by simp [hidle])⟩

/-- Settles O40: the accesses stay named or not, and the busy encoder ticks as with the request it has. -/
theorem busyRequestIgnored : Obligations.BusyRequestIgnored := by
  intro v s ready payload hbusy
  refine step_congr (accessesNamed_withPort_iff rfl rfl) ?_
  cases v with
  | i2c =>
    exact congrArg s.next.withI2c (I2c.tickNext_withInp_of_pin (TickInput.sameBut_of_busy hbusy ready payload) rfl)
  | gen => exact congrArg s.next.withGen (Gen.tickNext_withInp (TickInput.sameBut_of_busy hbusy ready payload))
  | att => exact congrArg s.next.withAtt (Att.tickNext_withInp (TickInput.sameBut_of_busy hbusy ready payload))
  | spi =>
    exact congrArg s.next.withSpi (Spi.tickNext_withInp_of_pin (TickInput.sameBut_of_busy hbusy ready payload) rfl)

/-! ## What the synchronizer reaches (46_host_interface.md R253)

Each part of a tick takes an encoder with other synchronizer stages and other read data (`withSync`) to what it takes the
encoder itself to, with the same other stages and read data; the end of the tick takes the first stage into the second. -/

/-- `m` with the synchronizer stages `a` and `b` and with the read data `rdata`. -/
def I2c.withSync (m : I2c) (a b : Bool) (rdata : Option Nat) : I2c :=
  { m with overlay := { m.overlay with sync1 := a, sync2 := b }, port := { m.port with rdata := rdata } }

/-- `m` with the synchronizer stages `a` and `b` and with the read data `rdata`. -/
def Spi.withSync (m : Spi) (a b : Bool) (rdata : Option Nat) : Spi :=
  { m with overlay := { m.overlay with sync1 := a, sync2 := b }, port := { m.port with rdata := rdata } }

section I2cSync

variable {m : I2c} {a b : Bool} {rdata : Option Nat}

theorem I2c.readNext_withSync : (m.withSync a b rdata).readNext =
    m.readNext.withSync a b (m.port.readNext (m.withSync a b rdata).regValue).rdata := rfl

theorem I2c.stateTick_withSync : (m.withSync a b rdata).stateTick = m.stateTick.withSync a b rdata := by
  cases m with
  | mk par state => cases state <;> rfl

/-- A reset keeps the synchronizer stages, whatever they hold. -/
theorem I2c.stateNext_withSync : (m.withSync a b rdata).stateNext = m.stateNext.withSync a b rdata := by
  have hrst : (m.withSync a b rdata).port.inp.rst = m.port.inp.rst := rfl
  unfold I2c.stateNext
  rw [hrst, I2c.stateTick_withSync]
  split <;> rfl

theorem I2c.store_withSync (n v : Nat) : (m.withSync a b rdata).store n v = (m.store n v).withSync a b rdata := by
  unfold I2c.store
  split <;> rfl

theorem I2c.writeNext_withSync : (m.withSync a b rdata).writeNext = m.writeNext.withSync a b rdata := by
  have hinp : (m.withSync a b rdata).port.inp = m.port.inp := rfl
  unfold I2c.writeNext
  rw [hinp]
  split
  · rfl
  · split
    · rfl
    · exact I2c.store_withSync _ _

theorem I2c.endNext_withSync :
    (m.withSync a b rdata).endNext = m.endNext.withSync m.port.inp.pin a rdata := rfl

/-- A whole tick with other synchronizer stages: the second stage apart, only what its read returns can be another. -/
theorem I2c.tickNext_withSync : (m.withSync a b rdata).tickNext =
    m.tickNext.withSync m.tickNext.overlay.sync1 a (m.port.readNext (m.withSync a b rdata).regValue).rdata := by
  rw [I2c.tickNext_eq_parts, I2c.readNext_withSync, I2c.stateNext_withSync, I2c.writeNext_withSync, I2c.endNext_withSync,
    I2c.tickNext_sync1, I2c.tickNext_eq_parts, I2c.writeNext_port, I2c.stateNext_port]
  rfl

/-- Only the read-back shows a stage. -/
theorem I2c.regValue_withSync {n : Nat} (hn : n < 8) : (m.withSync a b rdata).regValue n = m.regValue n := by
  interval_cases n <;> rfl

theorem I2c.rdata_withSync (hnamed : m.port.inp.NamesRegisters .i2c) (hrd : m.port.inp.cfgRd ≠ some 8#4) :
    (m.port.readNext (m.withSync a b rdata).regValue).rdata = m.tickNext.port.rdata := by
  have hread : m.tickNext.port.rdata = (m.port.readNext m.regValue).rdata := by simp [I2c.tickNext]
  rw [hread, Port.readNext, Port.readNext]
  refine Option.map_congr fun r hr => I2c.regValue_withSync (lt_of_le_of_ne ?le ?ne)
  case le => exact index_le_of_decodeCfg (hnamed.1 r hr)
  case ne => exact fun h => hrd (by rw [hr, BitVec.eq_of_toNat_eq (y := 8#4) h])

/-- The tick with other synchronizer stages, from the tick without them. -/
theorem I2c.tickNext_eq_of_withSync {u : I2c} (hnamed : m.port.inp.NamesRegisters .i2c)
    (hu : (m.withSync a b rdata).tickNext = u) :
    u = { m.tickNext with
      overlay := { m.tickNext.overlay with sync2 := a },
      port := { m.tickNext.port with
        rdata := if m.port.inp.cfgRd = some 8#4 then u.port.rdata else m.tickNext.port.rdata } } := by
  subst hu
  rw [I2c.tickNext_withSync]
  by_cases hrd : m.port.inp.cfgRd = some 8#4
  · rw [if_pos hrd]
    rfl
  · rw [if_neg hrd, I2c.rdata_withSync hnamed hrd]
    rfl

end I2cSync

section SpiSync

variable {m : Spi} {a b : Bool} {rdata : Option Nat}

theorem Spi.readNext_withSync : (m.withSync a b rdata).readNext =
    m.readNext.withSync a b (m.port.readNext (m.withSync a b rdata).regValue).rdata := rfl

theorem Spi.stateTick_withSync : (m.withSync a b rdata).stateTick = m.stateTick.withSync a b rdata := by
  cases m with
  | mk par state => cases state <;> rfl

/-- A reset keeps the synchronizer stages, whatever they hold. -/
theorem Spi.stateNext_withSync : (m.withSync a b rdata).stateNext = m.stateNext.withSync a b rdata := by
  have hrst : (m.withSync a b rdata).port.inp.rst = m.port.inp.rst := rfl
  unfold Spi.stateNext
  rw [hrst, Spi.stateTick_withSync]
  split <;> rfl

theorem Spi.store_withSync (n v : Nat) : (m.withSync a b rdata).store n v = (m.store n v).withSync a b rdata := by
  unfold Spi.store
  split <;> rfl

theorem Spi.writeNext_withSync : (m.withSync a b rdata).writeNext = m.writeNext.withSync a b rdata := by
  have hinp : (m.withSync a b rdata).port.inp = m.port.inp := rfl
  unfold Spi.writeNext
  rw [hinp]
  split
  · rfl
  · split
    · rfl
    · exact Spi.store_withSync _ _

theorem Spi.endNext_withSync :
    (m.withSync a b rdata).endNext = m.endNext.withSync m.port.inp.pin a rdata := rfl

/-- A whole tick with other synchronizer stages: the second stage apart, only what its read returns can be another. -/
theorem Spi.tickNext_withSync : (m.withSync a b rdata).tickNext =
    m.tickNext.withSync m.tickNext.overlay.sync1 a (m.port.readNext (m.withSync a b rdata).regValue).rdata := by
  rw [Spi.tickNext_eq_parts, Spi.readNext_withSync, Spi.stateNext_withSync, Spi.writeNext_withSync, Spi.endNext_withSync,
    Spi.tickNext_sync1, Spi.tickNext_eq_parts, Spi.writeNext_port, Spi.stateNext_port]
  rfl

/-- Only the read-back shows a stage. -/
theorem Spi.regValue_withSync {n : Nat} (hn : n < 5) : (m.withSync a b rdata).regValue n = m.regValue n := by
  interval_cases n <;> rfl

theorem Spi.rdata_withSync (hnamed : m.port.inp.NamesRegisters .spi) (hrd : m.port.inp.cfgRd ≠ some 5#4) :
    (m.port.readNext (m.withSync a b rdata).regValue).rdata = m.tickNext.port.rdata := by
  have hread : m.tickNext.port.rdata = (m.port.readNext m.regValue).rdata := by simp [Spi.tickNext]
  rw [hread, Port.readNext, Port.readNext]
  refine Option.map_congr fun r hr => Spi.regValue_withSync (lt_of_le_of_ne ?le ?ne)
  case le => exact index_le_of_decodeCfg (hnamed.1 r hr)
  case ne => exact fun h => hrd (by rw [hr, BitVec.eq_of_toNat_eq (y := 5#4) h])

/-- The tick with other synchronizer stages, from the tick without them. -/
theorem Spi.tickNext_eq_of_withSync {u : Spi} (hnamed : m.port.inp.NamesRegisters .spi)
    (hu : (m.withSync a b rdata).tickNext = u) :
    u = { m.tickNext with
      overlay := { m.tickNext.overlay with sync2 := a },
      port := { m.tickNext.port with
        rdata := if m.port.inp.cfgRd = some 5#4 then u.port.rdata else m.tickNext.port.rdata } } := by
  subst hu
  rw [Spi.tickNext_withSync]
  by_cases hrd : m.port.inp.cfgRd = some 5#4
  · rw [if_pos hrd]
    rfl
  · rw [if_neg hrd, Spi.rdata_withSync hnamed hrd]
    rfl

end SpiSync

/-- An encoder sees the same inputs with another level of the input line. -/
theorem TickInput.sameBut_pin (busy : Bool) (inp : TickInput) (pin : Bool) :
    ({ inp with pin := pin } : TickInput).SameBut busy inp :=
  ⟨rfl, rfl, rfl, fun _ => ⟨rfl, rfl⟩⟩

/-- Settles O41: I2C and SPI tick as with another line or with other synchronizer stages, and GEN and ATT are the same. -/
theorem inputLineOnlySynchronized : Obligations.InputLineOnlySynchronized := by
  intro s t u pin c1 c2 pin' e1 e2 hstep
  obtain ⟨hnamed, rfl⟩ := step_eq_next.1 hstep
  refine ⟨fun hline => ?line, fun hstages => ?stages⟩
  case line =>
    obtain ⟨-, rfl⟩ := step_eq_next.1 hline
    have hi2c := I2c.tickNext_withInp (m := s.i2c) (TickInput.sameBut_pin _ _ pin)
    have hspi := Spi.tickNext_withInp (m := s.spi) (TickInput.sameBut_pin _ _ pin')
    exact congrArg₂ (fun i p => { s.next with i2c := i, spi := p }) hi2c hspi
  case stages =>
    obtain ⟨-, rfl⟩ := step_eq_next.1 hstages
    have hi2c := I2c.tickNext_eq_of_withSync (a := c1) (b := c2) (rdata := s.i2c.port.rdata) (hnamed .i2c) rfl
    have hspi := Spi.tickNext_eq_of_withSync (a := e1) (b := e2) (rdata := s.spi.port.rdata) (hnamed .spi) rfl
    exact congrArg₂ (fun i p => { s.next with i2c := i, spi := p }) hi2c hspi

end Sys2Proof.Machine
end

section
/-! PROOFS. The step completes or is refused (60_exceptions.md R270): a tick meets no exception, and the only thing a step turns
away is an access outside the core (20_memory.md R73, 93_implementation_defined.md I15). -/

namespace Sys2Proof.Machine

/-- Settles O26, by what a step does in each of the two cases: named accesses run every instance to its `tickNext`, and the first instance
with an unnamed one is refused. -/
theorem stepCompletes : Obligations.StepCompletes := by
  intro s
  refine ⟨fun hnamed => ?named, fun hunnamed => ?unnamed⟩
  case named => exact ⟨s.next, step_of_named s hnamed⟩
  case unnamed => exact step_of_not_named s hunnamed

end Sys2Proof.Machine
end

section
/-! PROOFS. Reset (70_reset_and_hazards.md R295): in a tick with `rst` the reset stands in the place of the state rule and the
tick's write is lost, so that nothing but the end of the tick follows the reset. -/

namespace Sys2Proof.Machine

/-! ## The parts of a tick with reset -/

/-- The reset takes the place of the rule of the state. -/
theorem I2c.stateNext_of_reset {m : I2c} (hrst : m.port.inp.rst = true) : m.stateNext = m.applyReset := if_pos hrst

theorem Gen.stateNext_of_reset {m : Gen} (hrst : m.port.inp.rst = true) : m.stateNext = m.applyReset := if_pos hrst

theorem Att.stateNext_of_reset {m : Att} (hrst : m.port.inp.rst = true) : m.stateNext = m.applyReset := if_pos hrst

theorem Spi.stateNext_of_reset {m : Spi} (hrst : m.port.inp.rst = true) : m.stateNext = m.applyReset := if_pos hrst

/-- The write of a tick with reset is lost (46_host_interface.md R247). -/
theorem I2c.writeNext_of_reset {m : I2c} (hrst : m.port.inp.rst = true) : m.writeNext = m := by
  unfold I2c.writeNext
  split
  · rfl
  · exact if_pos hrst

theorem Gen.writeNext_of_reset {m : Gen} (hrst : m.port.inp.rst = true) : m.writeNext = m := by
  unfold Gen.writeNext
  split
  · rfl
  · exact if_pos hrst

theorem Att.writeNext_of_reset {m : Att} (hrst : m.port.inp.rst = true) : m.writeNext = m := by
  unfold Att.writeNext
  split
  · rfl
  · exact if_pos hrst

theorem Spi.writeNext_of_reset {m : Spi} (hrst : m.port.inp.rst = true) : m.writeNext = m := by
  unfold Spi.writeNext
  split
  · rfl
  · exact if_pos hrst

/-! ## A whole tick with reset

The read changes the port alone, and the reset keeps the port, so the write part still sees `rst`. -/

theorem I2c.tickNext_eq_of_reset {m : I2c} (hrst : m.port.inp.rst = true) :
    m.tickNext = m.readNext.applyReset.endNext := by
  have hread : m.readNext.port.inp.rst = true := by rw [I2c.readNext, Port.readNext_inp, hrst]
  have hreset : m.readNext.applyReset.port.inp.rst = true := by rw [I2c.applyReset_port, hread]
  rw [I2c.tickNext_eq_parts, I2c.stateNext_of_reset hread, I2c.writeNext_of_reset hreset]

theorem Gen.tickNext_eq_of_reset {m : Gen} (hrst : m.port.inp.rst = true) :
    m.tickNext = m.readNext.applyReset.endNext := by
  have hread : m.readNext.port.inp.rst = true := by rw [Gen.readNext, Port.readNext_inp, hrst]
  have hreset : m.readNext.applyReset.port.inp.rst = true := by rw [Gen.applyReset_port, hread]
  rw [Gen.tickNext_eq_parts, Gen.stateNext_of_reset hread, Gen.writeNext_of_reset hreset]

theorem Att.tickNext_eq_of_reset {m : Att} (hrst : m.port.inp.rst = true) :
    m.tickNext = m.readNext.applyReset.endNext := by
  have hread : m.readNext.port.inp.rst = true := by rw [Att.readNext, Port.readNext_inp, hrst]
  have hreset : m.readNext.applyReset.port.inp.rst = true := by rw [Att.applyReset_port, hread]
  rw [Att.tickNext_eq_parts, Att.stateNext_of_reset hread, Att.writeNext_of_reset hreset]

theorem Spi.tickNext_eq_of_reset {m : Spi} (hrst : m.port.inp.rst = true) :
    m.tickNext = m.readNext.applyReset.endNext := by
  have hread : m.readNext.port.inp.rst = true := by rw [Spi.readNext, Port.readNext_inp, hrst]
  have hreset : m.readNext.applyReset.port.inp.rst = true := by rw [Spi.applyReset_port, hread]
  rw [Spi.tickNext_eq_parts, Spi.stateNext_of_reset hread, Spi.writeNext_of_reset hreset]

/-- Settles O37: the tick of each encoder in reset is `applyReset`, whose values are those of `powerUp` with the fault flag kept,
and the end of the tick, which moves the synchronizer and the port only. -/
theorem resetTick : Obligations.ResetTick := by
  intro s t hstep
  obtain ⟨-, rfl⟩ := step_eq_next.1 hstep
  refine ⟨fun hrst => ?i2c, fun hrst => ?gen, fun hrst => ?att, fun hrst => ?spi⟩
  case i2c =>
    have htick : s.next.i2c = s.i2c.readNext.applyReset.endNext := I2c.tickNext_eq_of_reset hrst
    rw [htick]
    rfl
  case gen =>
    have htick : s.next.gen = s.gen.readNext.applyReset.endNext := Gen.tickNext_eq_of_reset hrst
    rw [htick]
    rfl
  case att =>
    have htick : s.next.att = s.att.readNext.applyReset.endNext := Att.tickNext_eq_of_reset hrst
    rw [htick]
    rfl
  case spi =>
    have htick : s.next.spi = s.spi.readNext.applyReset.endNext := Spi.tickNext_eq_of_reset hrst
    rw [htick]
    rfl

end Sys2Proof.Machine
end
